-- ==== Sys2Proof/Word.lean ====
section
/-! DEFINITION. The widths of the model: 32-bit registers (00_scope.md R5) and 64-bit error record registers
(10_state.md R32). -/

namespace Sys2Proof

/-- A general register or a System register: "a 32-bit register" (00_scope.md R5). -/
abbrev Word := BitVec 32

/-- A register of an error record, 64 bits (10_state.md R32). -/
abbrev DWord := BitVec 64

end Sys2Proof
end

