-- ==== Sys2Proof/Config.lean ====
section
/-! DEFINITION. What an implementation fixes (00_scope.md R4) and the free values the spec leaves open.

The parameters of R4 are data: State holds them as the constants of 10_state.md R20(c), so that a statement about
every state is a statement about every implementation (log 2). The values nobody states are opaque constants. -/

namespace Sys2Proof

/-- What ERRSELR is when no record is implemented (10_state.md R31). -/
inductive NoRecordsOption where
  /-- ERRSELR is UNDEFINED -/
  | undefined
  /-- ERRSELR is RES0 -/
  | res0
  deriving DecidableEq, Repr

/-- What an ERX access does while `SEL >= NUM` (10_state.md R35): parameter `ERX_OOR`. -/
inductive OutOfRangeOption where
  /-- "An UNKNOWN error record is selected." -/
  | unknownRecord
  /-- "<REG> is RAZ/WI." -/
  | razWi
  /-- "Direct reads and writes of <REG> are NOPs." -/
  | nop
  /-- "Direct reads and writes of <REG> are UNDEFINED." -/
  | undef
  deriving DecidableEq, Repr

/-- What stands behind a bit marked "Reserved, RES0." (40_access_common.md R131, D7). -/
inductive Res0Storage where
  /-- the bit is zero -/
  | hardwired0
  /-- the bit holds what was last written -/
  | readback
  deriving DecidableEq, Repr

/-- The architecture features an access tests (00_scope.md R2). -/
inductive Feature where
  | ras | rasv1p1 | aa32EL1 | aa32EL2 | aa64EL2 | aa32EL3 | aa64EL3 | doubleFault2
  deriving DecidableEq, Repr

/-- The implementation parameters of 00_scope.md R4, as plain data. -/
structure Impl where
  /-- `Impl(FEAT_RAS)` -/
  featRAS : Bool
  /-- `Impl(FEAT_RASv1p1)` -/
  featRASv1p1 : Bool
  /-- `Impl(FEAT_AA32EL1)` -/
  featAA32EL1 : Bool
  /-- `Impl(FEAT_AA32EL2)` -/
  featAA32EL2 : Bool
  /-- `Impl(FEAT_AA64EL2)` -/
  featAA64EL2 : Bool
  /-- `Impl(FEAT_AA32EL3)` -/
  featAA32EL3 : Bool
  /-- `Impl(FEAT_AA64EL3)` -/
  featAA64EL3 : Bool
  /-- `Impl(FEAT_DoubleFault2)` -/
  featDoubleFault2 : Bool
  /-- `NUM`, the number of error records (10_state.md R28) -/
  num : BitVec 16
  /-- `ERRSELR_WHEN_NO_RECORDS` (10_state.md R31) -/
  errselrWhenNoRecords : NoRecordsOption
  /-- `ERX_OOR` (10_state.md R35) -/
  erxOor : OutOfRangeOption
  /-- the indices above 0 of the records that are the first of their node (10_state.md R34; record 0 is always one, log 15) -/
  laterFirstOfNode : List Nat
  /-- `HAS_ESB_SYNC_SERROR` (10_state.md R24) -/
  hasEsbSyncSError : Bool
  /-- `HaveEL(EL2)` (10_state.md R39, R45) -/
  haveEL2 : Bool
  /-- `HaveEL(EL3)` (10_state.md R45) -/
  haveEL3 : Bool
  /-- `RES0_STORAGE` (40_access_common.md R131) -/
  res0Storage : Res0Storage
  deriving DecidableEq, Repr

/-- The registers of one error record (10_state.md R32). -/
inductive RecReg where
  | fr | ctlr | status | addr | misc0 | misc1 | misc2 | misc3
  deriving DecidableEq, Repr

/-- Half of a 64-bit record register: `lo` is bits [31:0], `hi` is bits [63:32] (40_access_common.md R126). -/
inductive Half where
  | lo | hi
  deriving DecidableEq, Repr

namespace Config

/-- The implementation that State.reset is on. DESIGN CHOICE (log 2), unsafe: 00_scope.md R4 gives no value to any
parameter; these are those of the spec's own programs (95_test_vectors.md Part 3). -/
def resetImpl : Impl :=
  { featRAS := true, featRASv1p1 := true, featAA32EL1 := true, featAA32EL2 := true, featAA64EL2 := true,
    featAA32EL3 := true, featAA64EL3 := true, featDoubleFault2 := true,
    num := 4#16, errselrWhenNoRecords := .res0, erxOor := .razWi, laterFirstOfNode := [2],
    hasEsbSyncSError := true, haveEL2 := true, haveEL3 := true, res0Storage := .hardwired0 }

/-- `UNKNOWN(16)`: the value of draw number n (00_scope.md R6). Free value (log 9), safe. -/
opaque unknown16 : Nat → BitVec 16

/-- `UNKNOWN(32)`: the value of draw number n (00_scope.md R6). Free value (log 9), safe. -/
opaque unknown32 : Nat → Word

/-- A 64-bit UNKNOWN: the value of draw number n, for a record register at Warm reset (70_reset_and_hazards.md R301).
Free value (log 9), safe. -/
opaque unknown64 : Nat → DWord

/-- The index behind draw number n of "An UNKNOWN error record is selected" (10_state.md R35), before it is brought
below NUM. Free value (log 9), safe. -/
opaque unknownIndex : Nat → Nat

/-- `ERR_WRITE_EFFECT(K, h, old, v)` (10_state.md R36, D8): the new value of the half written, at draw number n. It is
not instantiated, and R36 says that its result is then UNKNOWN(32), so it takes a fresh draw too (log 10). Safe. -/
opaque errWriteEffect : RecReg → Half → Word → Word → Nat → Word

end Config

end Sys2Proof
end

