-- ==== Sys2Proof/Syntax.lean ====
section
/-! DEFINITION. Syntax: the general registers an access can name and the 38 instructions, one constructor per row of
spec/opcode_table.json (30_encoding.md R105 and R112). -/

namespace Sys2Proof

/-- The general registers the model holds: R0 to R12 and R14 (10_state.md R46, D1). R13 and R15 are not transfer
registers of this spec (30_encoding.md R111), so an instruction cannot name them. -/
inductive Reg where
  | r0 | r1 | r2 | r3 | r4 | r5 | r6 | r7 | r8 | r9 | r10 | r11 | r12 | r14
  deriving DecidableEq, Repr

/-- The condition field of an instruction word, bits 31:28 (30_encoding.md R102). -/
abbrev Cond := BitVec 4

/-- The instructions in scope. `mrcX c rt` reads System register X into `rt`, `mcrX c rt` writes X from `rt`
(30_encoding.md R100). Docstrings give the rule of the row. -/
inductive Instr where
  /-- `MRC p15, 0, <Rt>, c12, c1, 1` (41_disr.md R150). -/
  | mrcDisr (c : Cond) (rt : Reg)
  /-- `MCR p15, 0, <Rt>, c12, c1, 1` (41_disr.md R151). -/
  | mcrDisr (c : Cond) (rt : Reg)
  /-- `MRC p15, 0, <Rt>, c5, c3, 0` (42_errid_errsel.md R160). -/
  | mrcErridr (c : Cond) (rt : Reg)
  /-- `MRC p15, 0, <Rt>, c5, c3, 1` (42_errid_errsel.md R161). -/
  | mrcErrselr (c : Cond) (rt : Reg)
  /-- `MCR p15, 0, <Rt>, c5, c3, 1` (42_errid_errsel.md R162). -/
  | mcrErrselr (c : Cond) (rt : Reg)
  /-- `MRC p15, 0, <Rt>, c5, c4, 3` (43_erx_addr_ctlr_fr.md R170). -/
  | mrcErxaddr (c : Cond) (rt : Reg)
  /-- `MCR p15, 0, <Rt>, c5, c4, 3` (43_erx_addr_ctlr_fr.md R171). -/
  | mcrErxaddr (c : Cond) (rt : Reg)
  /-- `MRC p15, 0, <Rt>, c5, c4, 7` (43_erx_addr_ctlr_fr.md R172). -/
  | mrcErxaddr2 (c : Cond) (rt : Reg)
  /-- `MCR p15, 0, <Rt>, c5, c4, 7` (43_erx_addr_ctlr_fr.md R173). -/
  | mcrErxaddr2 (c : Cond) (rt : Reg)
  /-- `MRC p15, 0, <Rt>, c5, c4, 1` (43_erx_addr_ctlr_fr.md R174). -/
  | mrcErxctlr (c : Cond) (rt : Reg)
  /-- `MCR p15, 0, <Rt>, c5, c4, 1` (43_erx_addr_ctlr_fr.md R175). -/
  | mcrErxctlr (c : Cond) (rt : Reg)
  /-- `MRC p15, 0, <Rt>, c5, c4, 5` (43_erx_addr_ctlr_fr.md R176). -/
  | mrcErxctlr2 (c : Cond) (rt : Reg)
  /-- `MCR p15, 0, <Rt>, c5, c4, 5` (43_erx_addr_ctlr_fr.md R177). -/
  | mcrErxctlr2 (c : Cond) (rt : Reg)
  /-- `MRC p15, 0, <Rt>, c5, c4, 0` (43_erx_addr_ctlr_fr.md R178). -/
  | mrcErxfr (c : Cond) (rt : Reg)
  /-- `MRC p15, 0, <Rt>, c5, c4, 4` (43_erx_addr_ctlr_fr.md R179). -/
  | mrcErxfr2 (c : Cond) (rt : Reg)
  /-- `MRC p15, 0, <Rt>, c5, c5, 0` (44_erxmisc.md R190). -/
  | mrcErxmisc0 (c : Cond) (rt : Reg)
  /-- `MCR p15, 0, <Rt>, c5, c5, 0` (44_erxmisc.md R191). -/
  | mcrErxmisc0 (c : Cond) (rt : Reg)
  /-- `MRC p15, 0, <Rt>, c5, c5, 1` (44_erxmisc.md R192). -/
  | mrcErxmisc1 (c : Cond) (rt : Reg)
  /-- `MCR p15, 0, <Rt>, c5, c5, 1` (44_erxmisc.md R193). -/
  | mcrErxmisc1 (c : Cond) (rt : Reg)
  /-- `MRC p15, 0, <Rt>, c5, c5, 4` (44_erxmisc.md R194). -/
  | mrcErxmisc2 (c : Cond) (rt : Reg)
  /-- `MCR p15, 0, <Rt>, c5, c5, 4` (44_erxmisc.md R195). -/
  | mcrErxmisc2 (c : Cond) (rt : Reg)
  /-- `MRC p15, 0, <Rt>, c5, c5, 5` (44_erxmisc.md R196). -/
  | mrcErxmisc3 (c : Cond) (rt : Reg)
  /-- `MCR p15, 0, <Rt>, c5, c5, 5` (44_erxmisc.md R197). -/
  | mcrErxmisc3 (c : Cond) (rt : Reg)
  /-- `MRC p15, 0, <Rt>, c5, c5, 2` (44_erxmisc.md R198). -/
  | mrcErxmisc4 (c : Cond) (rt : Reg)
  /-- `MCR p15, 0, <Rt>, c5, c5, 2` (44_erxmisc.md R199). -/
  | mcrErxmisc4 (c : Cond) (rt : Reg)
  /-- `MRC p15, 0, <Rt>, c5, c5, 3` (44_erxmisc.md R200). -/
  | mrcErxmisc5 (c : Cond) (rt : Reg)
  /-- `MCR p15, 0, <Rt>, c5, c5, 3` (44_erxmisc.md R201). -/
  | mcrErxmisc5 (c : Cond) (rt : Reg)
  /-- `MRC p15, 0, <Rt>, c5, c5, 6` (44_erxmisc.md R202). -/
  | mrcErxmisc6 (c : Cond) (rt : Reg)
  /-- `MCR p15, 0, <Rt>, c5, c5, 6` (44_erxmisc.md R203). -/
  | mcrErxmisc6 (c : Cond) (rt : Reg)
  /-- `MRC p15, 0, <Rt>, c5, c5, 7` (44_erxmisc.md R204). -/
  | mrcErxmisc7 (c : Cond) (rt : Reg)
  /-- `MCR p15, 0, <Rt>, c5, c5, 7` (44_erxmisc.md R205). -/
  | mcrErxmisc7 (c : Cond) (rt : Reg)
  /-- `MRC p15, 0, <Rt>, c5, c4, 2` (45_erxstatus.md R220). -/
  | mrcErxstatus (c : Cond) (rt : Reg)
  /-- `MCR p15, 0, <Rt>, c5, c4, 2` (45_erxstatus.md R221). -/
  | mcrErxstatus (c : Cond) (rt : Reg)
  /-- `MRC p15, 4, <Rt>, c5, c2, 3` (46_vdfsr_vdisr.md R230). -/
  | mrcVdfsr (c : Cond) (rt : Reg)
  /-- `MCR p15, 4, <Rt>, c5, c2, 3` (46_vdfsr_vdisr.md R231). -/
  | mcrVdfsr (c : Cond) (rt : Reg)
  /-- `MRC p15, 4, <Rt>, c12, c1, 1` (46_vdfsr_vdisr.md R232). -/
  | mrcVdisr (c : Cond) (rt : Reg)
  /-- `MCR p15, 4, <Rt>, c12, c1, 1` (46_vdfsr_vdisr.md R233). -/
  | mcrVdisr (c : Cond) (rt : Reg)
  /-- `ESB` (47_esb_indirect.md R250; encoding 30_encoding.md R112). -/
  | esb (c : Cond)
  deriving DecidableEq, Repr

/-- The condition field of an instruction. -/
def Instr.cond : Instr → Cond
  | .mrcDisr c _ => c
  | .mcrDisr c _ => c
  | .mrcErridr c _ => c
  | .mrcErrselr c _ => c
  | .mcrErrselr c _ => c
  | .mrcErxaddr c _ => c
  | .mcrErxaddr c _ => c
  | .mrcErxaddr2 c _ => c
  | .mcrErxaddr2 c _ => c
  | .mrcErxctlr c _ => c
  | .mcrErxctlr c _ => c
  | .mrcErxctlr2 c _ => c
  | .mcrErxctlr2 c _ => c
  | .mrcErxfr c _ => c
  | .mrcErxfr2 c _ => c
  | .mrcErxmisc0 c _ => c
  | .mcrErxmisc0 c _ => c
  | .mrcErxmisc1 c _ => c
  | .mcrErxmisc1 c _ => c
  | .mrcErxmisc2 c _ => c
  | .mcrErxmisc2 c _ => c
  | .mrcErxmisc3 c _ => c
  | .mcrErxmisc3 c _ => c
  | .mrcErxmisc4 c _ => c
  | .mcrErxmisc4 c _ => c
  | .mrcErxmisc5 c _ => c
  | .mcrErxmisc5 c _ => c
  | .mrcErxmisc6 c _ => c
  | .mcrErxmisc6 c _ => c
  | .mrcErxmisc7 c _ => c
  | .mcrErxmisc7 c _ => c
  | .mrcErxstatus c _ => c
  | .mcrErxstatus c _ => c
  | .mrcVdfsr c _ => c
  | .mcrVdfsr c _ => c
  | .mrcVdisr c _ => c
  | .mcrVdisr c _ => c
  | .esb c => c

end Sys2Proof
end

