-- ==== Sys2Proof/WellFormed.lean ====
section
/-! DEFINITION. Well-formed instructions: what a word of this spec can encode. The transfer register needs no check
(`Reg` holds only R0 to R12 and R14, 30_encoding.md R111); the condition does. -/

namespace Sys2Proof

/-- `cond = 0b1111` is not an MRC, an MCR or an ESB: it selects another instruction class (30_encoding.md R102, R106). -/
def Instr.wf (i : Instr) : Bool := i.cond != 0b1111#4

end Sys2Proof
end

