-- ==== Sys2Proof/Decode.lean ====
section
/-! DEFINITION. Decoding and encoding of the A32 and T32 forms (30_encoding.md R101 to R106, R111, R112).
The word layout is general knowledge in the spec (log 25). -/

namespace Sys2Proof

/-- Why a word is not an instruction of this spec. -/
inductive DecodeError where
  /-- `cond = 0b1111` (30_encoding.md R102, R106). Safe: nothing is claimed of the word. -/
  | condUnconditional
  /-- an MCR to the numbers of ERRIDR, ERXFR or ERXFR2 (30_encoding.md R108, D18). Safe. -/
  | readOnlyRegister
  /-- any other word outside 30_encoding.md R105 and R112 (R107, D3). Safe. -/
  | unlisted
  /-- `t = 13` (30_encoding.md R111, D3). Safe. -/
  | rt13
  /-- `t = 15` (30_encoding.md R111, D3). Safe. -/
  | rt15
  deriving DecidableEq, Repr

/-- The transfer register named by the Rt field (30_encoding.md R104, R111). -/
def Reg.ofBits (b : BitVec 4) : Except DecodeError Reg :=
  match b.toNat with
  | 0 => .ok .r0
  | 1 => .ok .r1
  | 2 => .ok .r2
  | 3 => .ok .r3
  | 4 => .ok .r4
  | 5 => .ok .r5
  | 6 => .ok .r6
  | 7 => .ok .r7
  | 8 => .ok .r8
  | 9 => .ok .r9
  | 10 => .ok .r10
  | 11 => .ok .r11
  | 12 => .ok .r12
  | 14 => .ok .r14
  | 13 => .error .rt13
  | _ => .error .rt15

/-- Bits 27:0 without Rt: the mask of every MRC and MCR row (30_encoding.md R105). -/
def accessMask : Word := 0x0FFF0FFF#32

/-- Bits 27:0: the mask of the ESB row (30_encoding.md R112). -/
def hintMask : Word := 0x0FFFFFFF#32

/-- The match value of the ESB row (30_encoding.md R112). -/
def esbMatch : Word := 0x0320F010#32

/-- The opcode map: the match value of each MRC and MCR row under `accessMask`, as 30_encoding.md R105 prints it. -/
def accessRows : List (Word × (Cond → Reg → Instr)) :=
  [ (0x0E1C0F31#32, .mrcDisr)
  , (0x0E0C0F31#32, .mcrDisr)
  , (0x0E150F13#32, .mrcErridr)
  , (0x0E150F33#32, .mrcErrselr)
  , (0x0E050F33#32, .mcrErrselr)
  , (0x0E150F74#32, .mrcErxaddr)
  , (0x0E050F74#32, .mcrErxaddr)
  , (0x0E150FF4#32, .mrcErxaddr2)
  , (0x0E050FF4#32, .mcrErxaddr2)
  , (0x0E150F34#32, .mrcErxctlr)
  , (0x0E050F34#32, .mcrErxctlr)
  , (0x0E150FB4#32, .mrcErxctlr2)
  , (0x0E050FB4#32, .mcrErxctlr2)
  , (0x0E150F14#32, .mrcErxfr)
  , (0x0E150F94#32, .mrcErxfr2) ]
  ++
  [ (0x0E150F15#32, .mrcErxmisc0)
  , (0x0E050F15#32, .mcrErxmisc0)
  , (0x0E150F35#32, .mrcErxmisc1)
  , (0x0E050F35#32, .mcrErxmisc1)
  , (0x0E150F95#32, .mrcErxmisc2)
  , (0x0E050F95#32, .mcrErxmisc2)
  , (0x0E150FB5#32, .mrcErxmisc3)
  , (0x0E050FB5#32, .mcrErxmisc3)
  , (0x0E150F55#32, .mrcErxmisc4)
  , (0x0E050F55#32, .mcrErxmisc4)
  , (0x0E150F75#32, .mrcErxmisc5)
  , (0x0E050F75#32, .mcrErxmisc5)
  , (0x0E150FD5#32, .mrcErxmisc6)
  , (0x0E050FD5#32, .mcrErxmisc6)
  , (0x0E150FF5#32, .mrcErxmisc7)
  , (0x0E050FF5#32, .mcrErxmisc7) ]
  ++
  [ (0x0E150F54#32, .mrcErxstatus)
  , (0x0E050F54#32, .mcrErxstatus)
  , (0x0E950F72#32, .mrcVdfsr)
  , (0x0E850F72#32, .mcrVdfsr)
  , (0x0E9C0F31#32, .mrcVdisr)
  , (0x0E8C0F31#32, .mcrVdisr) ]

/-- The three MCR words with the numbers of a read-only register (30_encoding.md R108). -/
def readOnlyWrites : List Word := [0x0E050F13#32, 0x0E050F14#32, 0x0E050F94#32]

/-- The decoding procedure of 30_encoding.md R106: the condition, then the row whose match value equals the word
under its mask, then the transfer register of R111. -/
def decodeA32 (w : Word) : Except DecodeError Instr :=
  let cond := w.extractLsb' 28 4
  if cond = 0b1111#4 then .error .condUnconditional
  else if w &&& hintMask = esbMatch then .ok (.esb cond)
  else
    match accessRows.find? (fun row => row.1 = w &&& accessMask) with
    | some row =>
      match Reg.ofBits (w.extractLsb' 12 4) with
      | .ok rt => .ok (row.2 cond rt)
      | .error e => .error e
    | none =>
      if w &&& accessMask ∈ readOnlyWrites then .error .readOnlyRegister else .error .unlisted

/-- The T32 halfwords of ESB (30_encoding.md R112). -/
def esbT32 : BitVec 16 × BitVec 16 := (0xF3AF#16, 0x8010#16)

/-- The condition of an unconditional T32 word: "always" (30_encoding.md R102, R103). -/
def condAlways : Cond := 0b1110#4

/-- The T32 form (30_encoding.md R103): "read as one 32-bit value with the first halfword in the high half it equals
the A32 word with cond = 0b1110". The first halfword of an MRC or MCR begins 0b11101110. -/
def decodeT32 (hw1 hw2 : BitVec 16) : Except DecodeError Instr :=
  if (hw1, hw2) = esbT32 then .ok (.esb condAlways)
  else if hw1.extractLsb' 8 8 = 0b11101110#8 then decodeA32 (hw1 ++ hw2)
  else .error .unlisted

/-- The instruction the decoder reads from a row's word, bits numbered as spec/opcode_table.json numbers them: one
32-bit word, the bits above `nbits` zero. -/
def decodeTableWord (nbits w : Nat) : Option Instr :=
  (decodeA32 (BitVec.ofNat 32 (w % 2 ^ nbits))).toOption

/-! ### Encoding -/

/-- The Rt field of a transfer register (30_encoding.md R104). -/
def Reg.bits : Reg → BitVec 4
  | .r0 => 0#4
  | .r1 => 1#4
  | .r2 => 2#4
  | .r3 => 3#4
  | .r4 => 4#4
  | .r5 => 5#4
  | .r6 => 6#4
  | .r7 => 7#4
  | .r8 => 8#4
  | .r9 => 9#4
  | .r10 => 10#4
  | .r11 => 11#4
  | .r12 => 12#4
  | .r14 => 14#4

/-- The MRC/MCR word (30_encoding.md R101): cond, 0b1110, opc1, L, CRn, Rt, coproc 0b1111, opc2, 1, CRm. -/
def accessWord (cond : Cond) (opc1 : BitVec 3) (l : BitVec 1) (crn : BitVec 4) (rt : Reg) (opc2 : BitVec 3)
    (crm : BitVec 4) : Word :=
  cond ++ 0b1110#4 ++ opc1 ++ l ++ crn ++ rt.bits ++ 0b1111#4 ++ opc2 ++ 0b1#1 ++ crm

/-- MRC: L = 1 (30_encoding.md R101). -/
def mrcWord (cond : Cond) (rt : Reg) (opc1 : BitVec 3) (crn crm : BitVec 4) (opc2 : BitVec 3) : Word :=
  accessWord cond opc1 1#1 crn rt opc2 crm

/-- MCR: L = 0 (30_encoding.md R101). -/
def mcrWord (cond : Cond) (rt : Reg) (opc1 : BitVec 3) (crn crm : BitVec 4) (opc2 : BitVec 3) : Word :=
  accessWord cond opc1 0#1 crn rt opc2 crm

/-- The word of an instruction: the five field values of its row in 30_encoding.md R105, placed as R101 says. -/
def encode : Instr → Word
  | .mrcDisr c rt => mrcWord c rt 0b000#3 0b1100#4 0b0001#4 0b001#3
  | .mcrDisr c rt => mcrWord c rt 0b000#3 0b1100#4 0b0001#4 0b001#3
  | .mrcErridr c rt => mrcWord c rt 0b000#3 0b0101#4 0b0011#4 0b000#3
  | .mrcErrselr c rt => mrcWord c rt 0b000#3 0b0101#4 0b0011#4 0b001#3
  | .mcrErrselr c rt => mcrWord c rt 0b000#3 0b0101#4 0b0011#4 0b001#3
  | .mrcErxaddr c rt => mrcWord c rt 0b000#3 0b0101#4 0b0100#4 0b011#3
  | .mcrErxaddr c rt => mcrWord c rt 0b000#3 0b0101#4 0b0100#4 0b011#3
  | .mrcErxaddr2 c rt => mrcWord c rt 0b000#3 0b0101#4 0b0100#4 0b111#3
  | .mcrErxaddr2 c rt => mcrWord c rt 0b000#3 0b0101#4 0b0100#4 0b111#3
  | .mrcErxctlr c rt => mrcWord c rt 0b000#3 0b0101#4 0b0100#4 0b001#3
  | .mcrErxctlr c rt => mcrWord c rt 0b000#3 0b0101#4 0b0100#4 0b001#3
  | .mrcErxctlr2 c rt => mrcWord c rt 0b000#3 0b0101#4 0b0100#4 0b101#3
  | .mcrErxctlr2 c rt => mcrWord c rt 0b000#3 0b0101#4 0b0100#4 0b101#3
  | .mrcErxfr c rt => mrcWord c rt 0b000#3 0b0101#4 0b0100#4 0b000#3
  | .mrcErxfr2 c rt => mrcWord c rt 0b000#3 0b0101#4 0b0100#4 0b100#3
  | .mrcErxmisc0 c rt => mrcWord c rt 0b000#3 0b0101#4 0b0101#4 0b000#3
  | .mcrErxmisc0 c rt => mcrWord c rt 0b000#3 0b0101#4 0b0101#4 0b000#3
  | .mrcErxmisc1 c rt => mrcWord c rt 0b000#3 0b0101#4 0b0101#4 0b001#3
  | .mcrErxmisc1 c rt => mcrWord c rt 0b000#3 0b0101#4 0b0101#4 0b001#3
  | .mrcErxmisc2 c rt => mrcWord c rt 0b000#3 0b0101#4 0b0101#4 0b100#3
  | .mcrErxmisc2 c rt => mcrWord c rt 0b000#3 0b0101#4 0b0101#4 0b100#3
  | .mrcErxmisc3 c rt => mrcWord c rt 0b000#3 0b0101#4 0b0101#4 0b101#3
  | .mcrErxmisc3 c rt => mcrWord c rt 0b000#3 0b0101#4 0b0101#4 0b101#3
  | .mrcErxmisc4 c rt => mrcWord c rt 0b000#3 0b0101#4 0b0101#4 0b010#3
  | .mcrErxmisc4 c rt => mcrWord c rt 0b000#3 0b0101#4 0b0101#4 0b010#3
  | .mrcErxmisc5 c rt => mrcWord c rt 0b000#3 0b0101#4 0b0101#4 0b011#3
  | .mcrErxmisc5 c rt => mcrWord c rt 0b000#3 0b0101#4 0b0101#4 0b011#3
  | .mrcErxmisc6 c rt => mrcWord c rt 0b000#3 0b0101#4 0b0101#4 0b110#3
  | .mcrErxmisc6 c rt => mcrWord c rt 0b000#3 0b0101#4 0b0101#4 0b110#3
  | .mrcErxmisc7 c rt => mrcWord c rt 0b000#3 0b0101#4 0b0101#4 0b111#3
  | .mcrErxmisc7 c rt => mcrWord c rt 0b000#3 0b0101#4 0b0101#4 0b111#3
  | .mrcErxstatus c rt => mrcWord c rt 0b000#3 0b0101#4 0b0100#4 0b010#3
  | .mcrErxstatus c rt => mcrWord c rt 0b000#3 0b0101#4 0b0100#4 0b010#3
  | .mrcVdfsr c rt => mrcWord c rt 0b100#3 0b0101#4 0b0010#4 0b011#3
  | .mcrVdfsr c rt => mcrWord c rt 0b100#3 0b0101#4 0b0010#4 0b011#3
  | .mrcVdisr c rt => mrcWord c rt 0b100#3 0b1100#4 0b0001#4 0b001#3
  | .mcrVdisr c rt => mcrWord c rt 0b100#3 0b1100#4 0b0001#4 0b001#3
  | .esb c => c ++ 0x320F010#28

end Sys2Proof
end

