-- ==== Sys2Proof/Machine/State.lean ====
section
/-! DEFINITION. The state of the machine (10_state.md R20), its inputs, the reasons it stops, and the state after reset. -/

namespace Sys2Proof.Machine

open Sys2Proof

/-- Exception levels (10_state.md R45: "EL0, EL1, EL2 or EL3"). -/
inductive EL where
  | el0 | el1 | el2 | el3
  deriving DecidableEq, Repr

/-- The exceptional outcomes of an access (40_access_common.md R120). What is done with one is in `State.raise`. -/
inductive Exc where
  /-- `Undefined`: the Undefined Instruction exception (60_exceptions.md R261); it records no code (R278). -/
  | undefined
  /-- `HypTrap(code)`: to EL2 using AArch32 (60_exceptions.md R262). -/
  | hypTrap (code : Nat)
  /-- `A64Trap(target, code)`: to EL2 or EL3 using AArch64 (60_exceptions.md R262, R263). -/
  | a64Trap (target : EL) (code : Nat)
  /-- `MonitorTrap`: to EL3 using AArch32; it records no code (60_exceptions.md R263, R278). -/
  | monitorTrap
  deriving DecidableEq, Repr

/-- What the last step reported to the embedding machine (00_scope.md R9: a step's result is "a new state plus one
outcome"). -/
inductive StepResult where
  /-- `Done` (40_access_common.md R120): the step had its effect, if any -/
  | done
  /-- an exceptional outcome (40_access_common.md R120) -/
  | raised (e : Exc)
  /-- the output of `VirtualSErrorTaken`: DFSR[15:14] and DFSR[12] (47_esb_indirect.md R253) -/
  | virtualSErrorReported (dfsr15_14 : BitVec 2) (dfsr12 : BitVec 1)
  deriving DecidableEq, Repr

/-- The context inputs of a step (10_state.md R45), each independent of the others (D15); `true` is 1. HaveEL(EL2) and
HaveEL(EL3) are constants of the implementation and stand in `Impl`. -/
structure Context where
  /-- `PSTATE.EL` -/
  el : EL
  /-- `PSTATE.M == M32_Monitor` -/
  isMonitor : Bool
  /-- `EL2Enabled()` -/
  el2Enabled : Bool
  /-- `ELUsingAArch32(EL2)` -/
  el2UsingAArch32 : Bool
  /-- `ELUsingAArch32(EL3)` -/
  el3UsingAArch32 : Bool
  /-- `Halted()` -/
  halted : Bool
  /-- `EL3SDDUndef()` -/
  el3SDDUndef : Bool
  /-- `EL3SDDUndefPriority()` -/
  el3SDDUndefPriority : Bool
  /-- `IsHCRXEL2Enabled()` -/
  isHCRXEL2Enabled : Bool
  /-- `SCR.TERR` -/
  scrTERR : Bool
  /-- `SCR.EA` -/
  scrEA : Bool
  /-- `SCR.NS` -/
  scrNS : Bool
  /-- `SCR_EL3.TERR` -/
  scrEL3TERR : Bool
  /-- `SCR_EL3.TWERR` -/
  scrEL3TWERR : Bool
  /-- `SCR_EL3.EA` -/
  scrEL3EA : Bool
  /-- `HCR.AMO` -/
  hcrAMO : Bool
  /-- `HCR_EL2.AMO` -/
  hcrEL2AMO : Bool
  /-- `HCRX_EL2.TMEA` -/
  hcrxEL2TMEA : Bool
  /-- `HCR2.TERR` -/
  hcr2TERR : Bool
  /-- `HCR_EL2.TERR` -/
  hcrEL2TERR : Bool
  /-- `HSTR.T5` -/
  hstrT5 : Bool
  /-- `HSTR.T12` -/
  hstrT12 : Bool
  /-- `HSTR_EL2.T5` -/
  hstrEL2T5 : Bool
  /-- `HSTR_EL2.T12` -/
  hstrEL2T12 : Bool
  /-- `TTBCR.EAE` -/
  ttbcrEAE : Bool
  /-- `HCR.VA`: named only; no rule reads it (47_esb_indirect.md R253, log 23) -/
  hcrVA : Bool
  deriving DecidableEq, Repr

/-- The syndrome of a physical SError that an ESB defers (47_esb_indirect.md R251): the environment supplies every
field, and the layout of DISR selects the ones it records. -/
structure Syndrome where
  /-- AET, in every layout -/
  aet : BitVec 2
  /-- EA, in layout (a) -/
  ea : BitVec 1
  /-- ExT, in layouts (b) and (c) -/
  ext : BitVec 1
  /-- DFSC, in layout (a) -/
  dfsc : BitVec 6
  /-- FS, in layout (b) -/
  fs : BitVec 5
  /-- STATUS, in layout (c) -/
  status : BitVec 6
  deriving DecidableEq, Repr

/-- Which deferral events the environment raises if the step is an ESB (47_esb_indirect.md R250, R256(e)): "none, one,
or both". -/
structure EsbChoice where
  /-- `EsbDefersPhysical(syn)` -/
  physical : Option Syndrome
  /-- `EsbDefersVirtual` -/
  virtual : Bool
  deriving DecidableEq, Repr

/-- What a step is (00_scope.md R9; log 1). -/
inductive StepKind where
  /-- an A32 instruction word in program order (30_encoding.md R101) -/
  | a32 (w : Word)
  /-- a T32 instruction of two halfwords (30_encoding.md R103) -/
  | t32 (hw1 hw2 : BitVec 16)
  /-- the taking of a virtual SError exception to EL1 (47_esb_indirect.md R253) -/
  | virtualSErrorTaken
  /-- a node writes a register of a record (10_state.md R49(b), D16) -/
  | nodeWritesRecord (n : Nat) (k : RecReg) (v : DWord)
  /-- a Warm reset (70_reset_and_hazards.md R301) -/
  | warmReset
  /-- a boundary outside the model, with no effect: exception return, ISB, an instruction whose condition failed
  (95_test_vectors.md Part 3; 10_state.md R48; log 29) -/
  | boundary
  deriving DecidableEq, Repr

/-- The inputs of one step: its kind, and the context and ESB choice supplied for it (00_scope.md R9, D15). -/
structure StepInput where
  ctx : Context
  esb : EsbChoice
  kind : StepKind
  deriving DecidableEq, Repr

/-- The general registers R0 to R12 and R14 (10_state.md R46, D1). -/
structure Gpr where
  r0 : Word
  r1 : Word
  r2 : Word
  r3 : Word
  r4 : Word
  r5 : Word
  r6 : Word
  r7 : Word
  r8 : Word
  r9 : Word
  r10 : Word
  r11 : Word
  r12 : Word
  r14 : Word
  deriving DecidableEq, Repr

/-- One error record: eight 64-bit registers (10_state.md R32). -/
structure Record where
  fr : DWord
  ctlr : DWord
  status : DWord
  addr : DWord
  misc0 : DWord
  misc1 : DWord
  misc2 : DWord
  misc3 : DWord
  deriving DecidableEq, Repr

/-- The state of the machine (10_state.md R20). -/
structure State where
  /-- R0 to R12 and R14 (10_state.md R46) -/
  gpr : Gpr
  /-- DISR (10_state.md R23) -/
  disr : Word
  /-- VDISR (10_state.md R40) -/
  vdisr : Word
  /-- VDFSR (10_state.md R38) -/
  vdfsr : Word
  /-- ERRSELR.SEL (10_state.md R29) -/
  sel : BitVec 16
  /-- the stored copy of the reserved bits [31:16] of ERRSELR (40_access_common.md R131) -/
  errselrHi : BitVec 16
  /-- the error records, `Rec[n]` at position n (10_state.md R32) -/
  recs : List Record
  /-- the constants of the implementation (10_state.md R20(c)) -/
  impl : Impl
  /-- the context inputs of the current step (10_state.md R45) -/
  ctx : Context
  /-- the environment's choice of deferral events for the current step (47_esb_indirect.md R256) -/
  esb : EsbChoice
  /-- what the last step reported (40_access_common.md R120) -/
  result : StepResult
  /-- the model's own: the inputs of the steps to come, the next one first (log 1) -/
  inputs : List StepInput
  /-- the model's own: how many free values have been drawn (log 9) -/
  draws : Nat
  deriving DecidableEq, Repr

/-- Why the machine stops. -/
inductive Fault where
  /-- raised by `step` when the queue of step inputs is empty: the embedding machine has supplied nothing to run
  (log 24). Safe: nothing is claimed of what happens then. -/
  | noInput
  deriving DecidableEq, Repr

/-- Why the machine has no transition (40_access_common.md R120, `Refused`). -/
inductive Refusal where
  /-- raised by an arm of `exec` whose instruction has no meaning yet; no arm does. Safe. -/
  | notModelled (mnemonic : String)
  /-- raised by `step` for a word that is not an instruction of this spec (00_scope.md R10; 30_encoding.md R106 to R108,
  R111). Safe: "A refusal errs toward unprovable." -/
  | undecodable (e : DecodeError)
  /-- raised by `step` for an environment event whose precondition does not hold (47_esb_indirect.md R256(b)(d);
  10_state.md R49(b): record index below NUM). Safe: the spec does not admit the event. -/
  | eventNotAdmissible
  deriving DecidableEq, Repr

/-- The outcome of one step of this machine. -/
abbrev Res := Host.Outcome State Fault Refusal

/-- The context of State.reset. PRESUMED (log 4), unsafe: the source gives none (70_reset_and_hazards.md R302); level and
mode are those of R302's passage from general knowledge, every other input is 0. -/
def resetContext : Context :=
  { el := .el3, isMonitor := true, el2Enabled := false, el2UsingAArch32 := true, el3UsingAArch32 := true,
    halted := false, el3SDDUndef := false, el3SDDUndefPriority := false, isHCRXEL2Enabled := false,
    scrTERR := false, scrEA := false, scrNS := false, scrEL3TERR := false, scrEL3TWERR := false, scrEL3EA := false,
    hcrAMO := false, hcrEL2AMO := false, hcrxEL2TMEA := false, hcr2TERR := false, hcrEL2TERR := false,
    hstrT5 := false, hstrT12 := false, hstrEL2T5 := false, hstrEL2T12 := false, ttbcrEAE := false, hcrVA := false }

/-- A record with every register zero. -/
def Record.zero : Record := { fr := 0, ctlr := 0, status := 0, addr := 0, misc0 := 0, misc1 := 0, misc2 := 0, misc3 := 0 }

/-- General registers all zero. -/
def Gpr.zero : Gpr :=
  { r0 := 0, r1 := 0, r2 := 0, r3 := 0, r4 := 0, r5 := 0, r6 := 0, r7 := 0, r8 := 0, r9 := 0, r10 := 0, r11 := 0,
    r12 := 0, r14 := 0 }

/-- The machine right after reset. The spec calls DISR, VDISR, VDFSR and SEL UNKNOWN and states nothing of the rest
(10_state.md R50): zero is one admissible state (95_test_vectors.md RS7). DESIGN CHOICE (log 3), unsafe. The Warm reset
of a running machine, which draws the UNKNOWN values, is the step `warmReset`. -/
def State.reset : State :=
  { gpr := Gpr.zero, disr := 0, vdisr := 0, vdfsr := 0, sel := 0, errselrHi := 0,
    recs := List.replicate Config.resetImpl.num.toNat Record.zero, impl := Config.resetImpl, ctx := resetContext,
    esb := { physical := none, virtual := false }, result := .done, inputs := [], draws := 0 }

end Sys2Proof.Machine
end

