-- ==== Sys2Proof/Machine/Operands.lean ====
section
/-! DEFINITION. The operand forms: the transfer register, the halves of a record register, the fields and masks of the
System registers, and the syndrome words an ESB composes (40_access_common.md R135 lists all the arithmetic there is). -/

namespace Sys2Proof.Machine

open Sys2Proof

/-! ### General registers (10_state.md R46) -/

/-- The value of a general register. -/
def Gpr.read (g : Gpr) : Reg → Word
  | .r0 => g.r0
  | .r1 => g.r1
  | .r2 => g.r2
  | .r3 => g.r3
  | .r4 => g.r4
  | .r5 => g.r5
  | .r6 => g.r6
  | .r7 => g.r7
  | .r8 => g.r8
  | .r9 => g.r9
  | .r10 => g.r10
  | .r11 => g.r11
  | .r12 => g.r12
  | .r14 => g.r14

/-- The register file with one register replaced. -/
def Gpr.write (g : Gpr) (t : Reg) (v : Word) : Gpr :=
  match t with
  | .r0 => { g with r0 := v }
  | .r1 => { g with r1 := v }
  | .r2 => { g with r2 := v }
  | .r3 => { g with r3 := v }
  | .r4 => { g with r4 := v }
  | .r5 => { g with r5 := v }
  | .r6 => { g with r6 := v }
  | .r7 => { g with r7 := v }
  | .r8 => { g with r8 := v }
  | .r9 => { g with r9 := v }
  | .r10 => { g with r10 := v }
  | .r11 => { g with r11 := v }
  | .r12 => { g with r12 := v }
  | .r14 => { g with r14 := v }

/-! ### Registers of an error record (10_state.md R32, R33) -/

/-- Register `K` of a record. -/
def Record.get (r : Record) : RecReg → DWord
  | .fr => r.fr
  | .ctlr => r.ctlr
  | .status => r.status
  | .addr => r.addr
  | .misc0 => r.misc0
  | .misc1 => r.misc1
  | .misc2 => r.misc2
  | .misc3 => r.misc3

/-- A record with register `K` replaced. -/
def Record.set (r : Record) (k : RecReg) (v : DWord) : Record :=
  match k with
  | .fr => { r with fr := v }
  | .ctlr => { r with ctlr := v }
  | .status => { r with status := v }
  | .addr => { r with addr := v }
  | .misc0 => { r with misc0 := v }
  | .misc1 => { r with misc1 := v }
  | .misc2 => { r with misc2 := v }
  | .misc3 => { r with misc3 := v }

/-- Half `h` of a 64-bit register: bits [31:0] or bits [63:32] (20_memory.md R82). -/
def halfOf (d : DWord) : Half → Word
  | .lo => d.extractLsb' 0 32
  | .hi => d.extractLsb' 32 32

/-- A 64-bit register with half `h` replaced and the other half kept (10_state.md R36). -/
def withHalf (d : DWord) (h : Half) (v : Word) : DWord :=
  match h with
  | .lo => d.extractLsb' 32 32 ++ v
  | .hi => v ++ d.extractLsb' 0 32

/-- `zext_32` of a 16-bit value (00_scope.md R6). -/
def zext32 (v : BitVec 16) : Word := 0#16 ++ v

/-! ### Features (00_scope.md R2) -/

/-- `Impl(FEAT_x)`. -/
def hasFeature (p : Impl) : Feature → Bool
  | .ras => p.featRAS
  | .rasv1p1 => p.featRASv1p1
  | .aa32EL1 => p.featAA32EL1
  | .aa32EL2 => p.featAA32EL2
  | .aa64EL2 => p.featAA64EL2
  | .aa32EL3 => p.featAA32EL3
  | .aa64EL3 => p.featAA64EL3
  | .doubleFault2 => p.featDoubleFault2

/-- `FirstOfNode(n)`: whether record n is the first its node owns (10_state.md R34). Record 0 is, whatever node owns it. -/
def firstOfNode (p : Impl) (n : Nat) : Bool := n == 0 || p.laterFirstOfNode.contains n

/-! ### Field masks (10_state.md R43) and reserved bits (40_access_common.md R131) -/

/-- The named bits of DISR: 0x8000DE3F, without bit 31 when no SError source can be synchronized by an ESB (R24, R43). -/
def disrFieldMask (p : Impl) : Word := if p.hasEsbSyncSError then 0x8000DE3F#32 else 0x0000DE3F#32

/-- The named bits of VDISR; none when EL2 is not implemented (R39, R43). -/
def vdisrFieldMask (p : Impl) : Word := if p.haveEL2 then 0x8000D63F#32 else 0#32

/-- The named bits of VDFSR; none when EL2 is not implemented (R39, R43). -/
def vdfsrFieldMask (p : Impl) : Word := if p.haveEL2 then 0x0000D000#32 else 0#32

/-- The named bits of ERRSELR: SEL; none when ERRSELR is RES0 because no record is implemented (10_state.md R31, R43;
40_access_common.md R131). -/
def errselrFieldMask (p : Impl) : Word :=
  if p.num == 0 && p.errselrWhenNoRecords == .res0 then 0#32 else 0x0000FFFF#32

/-- What a direct write of `v` stores in a register with these named bits (40_access_common.md R131). -/
def storedValue (p : Impl) (fieldMask v : Word) : Word :=
  match p.res0Storage with
  | .hardwired0 => v &&& fieldMask
  | .readback => v

/-! ### Syndrome words (47_esb_indirect.md R251, R252) -/

/-- Layout (a), an ESB executed at EL2 (10_state.md R25): A = 1, AET [11:10], EA [9], DFSC [5:0]. -/
def hypSyndrome (aet : BitVec 2) (ea : BitVec 1) (dfsc : BitVec 6) : Word :=
  1#1 ++ 0#19 ++ aet ++ ea ++ 0#3 ++ dfsc

/-- Layout (b), TTBCR.EAE == 0 (10_state.md R26, R41): A = 1, AET [15:14], ExT [12], FS [10, 3:0], LPAE [9] = 0. -/
def shortSyndrome (aet : BitVec 2) (ext : BitVec 1) (fs : BitVec 5) : Word :=
  1#1 ++ 0#15 ++ aet ++ 0#1 ++ ext ++ 0#1 ++ fs.extractLsb' 4 1 ++ 0#1 ++ 0#5 ++ fs.extractLsb' 0 4

/-- Layout (c), TTBCR.EAE == 1 (10_state.md R27, R42): A = 1, AET [15:14], ExT [12], LPAE [9] = 1, STATUS [5:0]. -/
def longSyndrome (aet : BitVec 2) (ext : BitVec 1) (status : BitVec 6) : Word :=
  1#1 ++ 0#15 ++ aet ++ 0#1 ++ ext ++ 0#2 ++ 1#1 ++ 0#3 ++ status

/-- VDFSR.AET, bits [15:14] (10_state.md R38). -/
def vdfsrAET (v : Word) : BitVec 2 := v.extractLsb' 14 2

/-- VDFSR.ExT, bit [12] (10_state.md R38). -/
def vdfsrExT (v : Word) : BitVec 1 := v.extractLsb' 12 1

/-- The code "Asynchronous SError exception." in field FS (10_state.md R41). -/
def asyncSErrorFS : BitVec 5 := 0b10110#5

/-- The code "Asynchronous SError exception." in field STATUS (10_state.md R42). -/
def asyncSErrorStatus : BitVec 6 := 0b010001#6

/-- The exception class every trap call passes (60_exceptions.md R278). -/
def trapCode : Nat := 0x03

end Sys2Proof.Machine
end

