-- ==== Sys2Proof/Machine/Flags.lean ====
section
/-! DEFINITION. Flags: none. No instruction in scope writes or reads a condition flag (10_state.md R48;
40_access_common.md R135). What stands here are the two tests the rules make on values: the unsigned comparison of
ERRSELR.SEL with ERRIDR.NUM, and NUM == 0. -/

namespace Sys2Proof.Machine

open Sys2Proof

/-- `SEL >= NUM`, unsigned on 16 bits (10_state.md R30, R35). -/
def State.outOfRange (s : State) : Bool := s.impl.num.ule s.sel

/-- ERRIDR indicates that zero error records are implemented (10_state.md R31). -/
def State.noRecords (s : State) : Bool := s.impl.num == 0

end Sys2Proof.Machine
end

