-- ==== Sys2Proof/Machine/Ops.lean ====
section
/-! DEFINITION. The named operations: ending a step, taking an exceptional outcome, drawing UNKNOWN values, the
transfer register, the owned System registers, and the error records behind the ERX windows. -/

namespace Sys2Proof.Machine

open Sys2Proof

/-! ### How a step ends (40_access_common.md R120) -/

/-- Outcome `Done`. -/
def State.finish (s : State) : Res := .next { s with result := .done }

/-- Taking an exceptional outcome: the one operation for all five. The outcome is reported with its target and code, "no
register of this spec changes and R[t] is not written", and control passes to the embedding machine, whose exception
entry the source does not describe (40_access_common.md R120; 60_exceptions.md R266; D6; log 8). -/
def State.raise (e : Exc) (s : State) : Res := .next { s with result := .raised e }

/-- An access check followed by the access: either the check raises, or it falls through to `ACCESS`
(40_access_common.md R122). -/
def guarded (check : Option Exc) (access : State → Res) (s : State) : Res :=
  match check with
  | some e => s.raise e
  | none => access s

/-! ### Free values (00_scope.md R6; log 9) -/

/-- One more UNKNOWN has been drawn. -/
def State.drawn (s : State) : State := { s with draws := s.draws + 1 }

/-- The next `UNKNOWN(16)`. -/
def State.nextUnknown16 (s : State) : BitVec 16 := Config.unknown16 s.draws

/-- The next `UNKNOWN(32)`. -/
def State.nextUnknown32 (s : State) : Word := Config.unknown32 s.draws

/-- The next "draw in [0, NUM-1]" (40_access_common.md R126); it is below NUM when there is a record. -/
def State.nextUnknownRecord (s : State) : Nat := Config.unknownIndex s.draws % s.impl.num.toNat

/-! ### The transfer register (00_scope.md R6) -/

/-- `R[t]`. -/
def State.readGpr (s : State) (t : Reg) : Word := s.gpr.read t

/-- `R[t] <- v`. -/
def State.writeGpr (s : State) (t : Reg) (v : Word) : State := { s with gpr := s.gpr.write t v }

/-! ### The owned System registers, direct writes (40_access_common.md R131) -/

/-- `DISR <- v`. -/
def State.writeDisr (s : State) (v : Word) : State := { s with disr := storedValue s.impl (disrFieldMask s.impl) v }

/-- `VDISR <- v`. -/
def State.writeVdisr (s : State) (v : Word) : State := { s with vdisr := storedValue s.impl (vdisrFieldMask s.impl) v }

/-- `VDFSR <- v`. -/
def State.writeVdfsr (s : State) (v : Word) : State := { s with vdfsr := storedValue s.impl (vdfsrFieldMask s.impl) v }

/-- The reserved bits [31:16] that a read of ERRSELR returns (42_errid_errsel.md R161). -/
def State.errselrRes0 (s : State) : BitVec 16 :=
  match s.impl.res0Storage with
  | .hardwired0 => 0
  | .readback => s.errselrHi

/-- `ERRSELR <- v` (42_errid_errsel.md R162); SEL is stored under the mask of 40_access_common.md R131 (log 13). -/
def State.writeErrselr (s : State) (v : Word) : State :=
  { s with
    sel := (storedValue s.impl (errselrFieldMask s.impl) v).extractLsb' 0 16
    errselrHi := match s.impl.res0Storage with
      | .hardwired0 => s.errselrHi
      | .readback => v.extractLsb' 16 16 }

/-! ### The error records (10_state.md R32 to R36) -/

/-- `Rec[n]`; there is no record at an index of NUM or more, and no rule reads one there. -/
def State.record (s : State) (n : Nat) : Record := (s.recs[n]?).getD Record.zero

/-- `Rec[n].K`. -/
def State.recReg (s : State) (n : Nat) (k : RecReg) : DWord := (s.record n).get k

/-- `Rec[n].K <- v`; nothing at an index where there is no record. -/
def State.writeRecReg (s : State) (n : Nat) (k : RecReg) (v : DWord) : State :=
  { s with recs := s.recs.set n ((s.record n).set k v) }

/-- Whether a window onto register K of record n is all reserved bits: CTLR of a record that is not the first of its
node (10_state.md R34). -/
def State.windowRes0 (s : State) (n : Nat) (k : RecReg) : Bool := k == .ctlr && !firstOfNode s.impl n

/-- `ReadHalf(n, K, h)` (40_access_common.md R126). -/
def State.readHalf (s : State) (n : Nat) (k : RecReg) (h : Half) : Word :=
  if s.windowRes0 n k then
    match s.impl.res0Storage with
    | .hardwired0 => 0
    | .readback => halfOf (s.recReg n k) h
  else halfOf (s.recReg n k) h

/-- Half h of `Rec[n].K` replaced by v. -/
def State.setHalf (s : State) (n : Nat) (k : RecReg) (h : Half) (v : Word) : State :=
  s.writeRecReg n k (withHalf (s.recReg n k) h v)

/-- `WriteHalf(n, K, h, v)` (40_access_common.md R127); ERR_WRITE_EFFECT is a free value (log 10). -/
def State.writeHalf (s : State) (n : Nat) (k : RecReg) (h : Half) (v : Word) : State :=
  if s.windowRes0 n k then
    match s.impl.res0Storage with
    | .hardwired0 => s
    | .readback => s.setHalf n k h v
  else (s.setHalf n k h (Config.errWriteEffect k h (halfOf (s.recReg n k) h) v s.draws)).drawn

/-- `ErxRead(K, h)` into `R[t]` (40_access_common.md R126). -/
def erxRead (k : RecReg) (h : Half) (t : Reg) (s : State) : Res :=
  if s.outOfRange then
    match s.impl.erxOor with
    | .unknownRecord =>
      if s.noRecords then (s.writeGpr t s.nextUnknown32).drawn.finish
      else (s.writeGpr t (s.readHalf s.nextUnknownRecord k h)).drawn.finish
    | .razWi => (s.writeGpr t 0).finish
    | .nop => s.finish
    | .undef => s.raise .undefined
  else (s.writeGpr t (s.readHalf s.sel.toNat k h)).finish

/-- `ErxWrite(K, h, R[t])` (40_access_common.md R127). -/
def erxWrite (k : RecReg) (h : Half) (t : Reg) (s : State) : Res :=
  if s.outOfRange then
    match s.impl.erxOor with
    | .unknownRecord =>
      if s.noRecords then s.finish
      else (s.drawn.writeHalf s.nextUnknownRecord k h (s.readGpr t)).finish
    | .razWi => s.finish
    | .nop => s.finish
    | .undef => s.raise .undefined
  else (s.writeHalf s.sel.toNat k h (s.readGpr t)).finish

end Sys2Proof.Machine
end

