-- ==== Sys2Proof/Machine/Access.lean ====
section
/-! DEFINITION. The access checks (40_access_common.md R121 to R125; 41_disr.md R150): each is the listing of its rule,
arm by arm, and answers the outcome it raises or `none` for `ACCESS`. Arm labels are the spec's. -/

namespace Sys2Proof.Machine

open Sys2Proof

/-- `Impl(F) && Impl(FEAT_AA32EL1)` (40_access_common.md R121). -/
def State.present (s : State) (f : Feature) : Bool := hasFeature s.impl f && hasFeature s.impl .aa32EL1

/-- EL2 is enabled and its AArch64 controls apply. -/
def State.el2A64 (s : State) : Bool := s.ctx.el2Enabled && hasFeature s.impl .aa64EL2 && !s.ctx.el2UsingAArch32

/-- EL2 is enabled and its AArch32 controls apply. -/
def State.el2A32 (s : State) : Bool := s.ctx.el2Enabled && hasFeature s.impl .aa32EL2 && s.ctx.el2UsingAArch32

/-- EL3 is implemented and its AArch64 controls apply. -/
def State.el3A64 (s : State) : Bool := s.impl.haveEL3 && hasFeature s.impl .aa64EL3 && !s.ctx.el3UsingAArch32

/-- EL3 is implemented and its AArch32 controls apply. -/
def State.el3A32 (s : State) : Bool := s.impl.haveEL3 && hasFeature s.impl .aa32EL3 && s.ctx.el3UsingAArch32

/-- A trap to EL2 using AArch64: `A64Trap(EL2, 0x03)`. -/
def trapEL2A64 : Exc := .a64Trap .el2 trapCode

/-- A trap to EL2 using AArch32: `HypTrap(0x03)`. -/
def trapEL2A32 : Exc := .hypTrap trapCode

/-- A trap to EL3 using AArch64, `Undefined` when `EL3SDDUndef()` (60_exceptions.md R263, R274). -/
def State.trapEL3A64 (s : State) : Exc := if s.ctx.el3SDDUndef then .undefined else .a64Trap .el3 trapCode

/-- A trap to EL3 using AArch32 from below EL3, `Undefined` when `EL3SDDUndef()` (60_exceptions.md R263, R274). -/
def State.trapEL3A32 (s : State) : Exc := if s.ctx.el3SDDUndef then .undefined else .monitorTrap

/-- `ErrReadCheck(F)` (40_access_common.md R122). -/
def errReadCheck (f : Feature) (s : State) : Option Exc :=
  let c := s.ctx
  if !s.present f then some .undefined                                                 -- P
  else match c.el with
    | .el0 => some .undefined                                                          -- E0
    | .el1 =>
      if s.el3A64 && c.el3SDDUndefPriority && c.scrEL3TERR then some .undefined        -- E1.1
      else if s.el3A32 && c.el3SDDUndefPriority && c.scrTERR then some .undefined      -- E1.3
      else if s.el2A64 && c.hstrEL2T5 then some trapEL2A64                             -- E1.4
      else if s.el2A32 && c.hstrT5 then some trapEL2A32                                -- E1.5
      else if s.el2A64 && c.hcrEL2TERR then some trapEL2A64                            -- E1.6
      else if s.el2A32 && c.hcr2TERR then some trapEL2A32                              -- E1.7
      else if s.el3A64 && c.scrEL3TERR then some s.trapEL3A64                          -- E1.8
      else if s.el3A32 && !c.isMonitor && c.scrTERR then some s.trapEL3A32             -- E1.10
      else none                                                                        -- E1.11
    | .el2 =>
      if s.el3A64 && c.el3SDDUndefPriority && c.scrEL3TERR then some .undefined        -- E2.1
      else if s.el3A32 && c.el3SDDUndefPriority && c.scrTERR then some .undefined      -- E2.3
      else if s.el3A64 && c.scrEL3TERR then some s.trapEL3A64                          -- E2.4
      else if s.el3A32 && c.scrTERR then some s.trapEL3A32                             -- E2.6
      else none                                                                        -- E2.7
    | .el3 =>
      if !c.isMonitor && c.scrTERR then some .monitorTrap                              -- E3.1
      else none                                                                        -- E3.2

/-- `ErrWriteCheck(F)` (40_access_common.md R123). -/
def errWriteCheck (f : Feature) (s : State) : Option Exc :=
  let c := s.ctx
  if !s.present f then some .undefined                                                 -- P
  else match c.el with
    | .el0 => some .undefined                                                          -- E0
    | .el1 =>
      if s.el3A64 && c.el3SDDUndefPriority && c.scrEL3TERR then some .undefined        -- E1.1
      else if s.el3A64 && c.el3SDDUndefPriority && c.scrEL3TWERR then some .undefined  -- E1.2
      else if s.el3A32 && c.el3SDDUndefPriority && c.scrTERR then some .undefined      -- E1.3
      else if s.el2A64 && c.hstrEL2T5 then some trapEL2A64                             -- E1.4
      else if s.el2A32 && c.hstrT5 then some trapEL2A32                                -- E1.5
      else if s.el2A64 && c.hcrEL2TERR then some trapEL2A64                            -- E1.6
      else if s.el2A32 && c.hcr2TERR then some trapEL2A32                              -- E1.7
      else if s.el3A64 && c.scrEL3TERR then some s.trapEL3A64                          -- E1.8
      else if s.el3A64 && c.scrEL3TWERR then some s.trapEL3A64                         -- E1.9
      else if s.el3A32 && !c.isMonitor && c.scrTERR then some s.trapEL3A32             -- E1.10
      else none                                                                        -- E1.11
    | .el2 =>
      if s.el3A64 && c.el3SDDUndefPriority && c.scrEL3TERR then some .undefined        -- E2.1
      else if s.el3A64 && c.el3SDDUndefPriority && c.scrEL3TWERR then some .undefined  -- E2.2
      else if s.el3A32 && c.el3SDDUndefPriority && c.scrTERR then some .undefined      -- E2.3
      else if s.el3A64 && c.scrEL3TERR then some s.trapEL3A64                          -- E2.4
      else if s.el3A64 && c.scrEL3TWERR then some s.trapEL3A64                         -- E2.5
      else if s.el3A32 && c.scrTERR then some s.trapEL3A32                             -- E2.6
      else none                                                                        -- E2.7
    | .el3 =>
      if !c.isMonitor && c.scrTERR then some .monitorTrap                              -- E3.1
      else none                                                                        -- E3.2

/-- `VirtCheck(n)` (40_access_common.md R125), given the two HSTR bits of the register: T5 for VDFSR, T12 for VDISR. -/
def virtCheck (hstrEL2 hstr : Bool) (s : State) : Option Exc :=
  if !s.present .ras then some .undefined                                              -- P
  else match s.ctx.el with
    | .el0 => some .undefined                                                          -- V0
    | .el1 =>
      if s.el2A64 && hstrEL2 then some trapEL2A64                                      -- V1.1
      else if s.el2A32 && hstr then some trapEL2A32                                    -- V1.2
      else some .undefined                                                             -- V1.3
    | .el2 => none                                                                     -- V2
    | .el3 => if !s.ctx.scrNS then some .undefined else none                           -- V3.1, V3.2

/-- `VirtCheck(5)`, for VDFSR. -/
def vdfsrCheck (s : State) : Option Exc := virtCheck s.ctx.hstrEL2T5 s.ctx.hstrT5 s

/-- `VirtCheck(12)`, for VDISR by its own encoding. -/
def vdisrCheck (s : State) : Option Exc := virtCheck s.ctx.hstrEL2T12 s.ctx.hstrT12 s

/-- Where an access by the DISR encoding goes (41_disr.md R150). -/
inductive DisrPath where
  /-- it raises an outcome -/
  | raises (e : Exc)
  /-- it reaches VDISR -/
  | toVdisr
  /-- it reads zero and ignores writes -/
  | zero
  /-- it reaches DISR -/
  | toDisr
  deriving DecidableEq, Repr

/-- EL3 takes External aborts: conditions D1.5 or D1.6, and D2.1 or D2.2, of 41_disr.md R150. -/
def State.el3OwnsSError (s : State) : Bool :=
  (s.el3A64 && !s.ctx.halted && s.ctx.scrEL3EA) || (s.el3A32 && !s.ctx.halted && s.ctx.scrEA)

/-- EL2 using AArch64 takes SErrors: condition D1.3 of 41_disr.md R150. -/
def State.el2A64OwnsSError (s : State) : Bool :=
  s.el2A64 && (s.ctx.hcrEL2AMO
    || (hasFeature s.impl .doubleFault2 && s.ctx.isHCRXEL2Enabled && s.ctx.hcrxEL2TMEA))

/-- The arms of 41_disr.md R150 and R151, whose conditions are the same. -/
def disrPath (s : State) : DisrPath :=
  if !s.present .ras then .raises .undefined                                           -- P
  else match s.ctx.el with
    | .el0 => .raises .undefined                                                       -- D0
    | .el1 =>
      if s.el2A64 && s.ctx.hstrEL2T12 then .raises trapEL2A64                          -- D1.1
      else if s.el2A32 && s.ctx.hstrT12 then .raises trapEL2A32                        -- D1.2
      else if s.el2A64OwnsSError then .toVdisr                                         -- D1.3
      else if s.el2A32 && s.ctx.hcrAMO then .toVdisr                                   -- D1.4
      else if s.el3OwnsSError then .zero                                               -- D1.5, D1.6
      else .toDisr                                                                     -- D1.7
    | .el2 => if s.el3OwnsSError then .zero else .toDisr                               -- D2.1 to D2.3
    | .el3 => .toDisr                                                                  -- D3

end Sys2Proof.Machine
end

