-- ==== Sys2Proof/Machine/Disr.lean ====
section
/-! DEFINITION. The accesses by the DISR encoding (41_disr.md). The condition field of an instruction is taken to have
passed, here and in every meaning (10_state.md R48, D3; log 6). -/

namespace Sys2Proof.Machine

open Sys2Proof

/-- MRC DISR (41_disr.md R150). -/
def execMrcDisr (_c : Cond) (t : Reg) (s : State) : Res :=
  match disrPath s with
  | .raises e => s.raise e
  | .toVdisr => (s.writeGpr t s.vdisr).finish
  | .zero => (s.writeGpr t 0).finish
  | .toDisr => (s.writeGpr t s.disr).finish

/-- MCR DISR (41_disr.md R151). -/
def execMcrDisr (_c : Cond) (t : Reg) (s : State) : Res :=
  match disrPath s with
  | .raises e => s.raise e
  | .toVdisr => (s.writeVdisr (s.readGpr t)).finish
  | .zero => s.finish
  | .toDisr => (s.writeDisr (s.readGpr t)).finish

end Sys2Proof.Machine
end

