-- ==== Sys2Proof/Machine/ErrId.lean ====
section
/-! DEFINITION. The accesses to ERRIDR and ERRSELR (42_errid_errsel.md). -/

namespace Sys2Proof.Machine

open Sys2Proof

/-- MRC ERRIDR (42_errid_errsel.md R160). -/
def execMrcErridr (_c : Cond) (t : Reg) (s : State) : Res :=
  guarded (errReadCheck .ras s) (fun s => (s.writeGpr t (zext32 s.impl.num)).finish) s

/-- ERRSELR is UNDEFINED because no record is implemented (10_state.md R31). -/
def State.errselrUndefined (s : State) : Bool := s.noRecords && s.impl.errselrWhenNoRecords == .undefined

/-- MRC ERRSELR (42_errid_errsel.md R161). -/
def execMrcErrselr (_c : Cond) (t : Reg) (s : State) : Res :=
  guarded (errReadCheck .ras s) (fun s =>
    if s.errselrUndefined then s.raise .undefined
    else if s.outOfRange then (s.writeGpr t (s.errselrRes0 ++ s.nextUnknown16)).drawn.finish
    else (s.writeGpr t (s.errselrRes0 ++ s.sel)).finish) s

/-- MCR ERRSELR (42_errid_errsel.md R162). -/
def execMcrErrselr (_c : Cond) (t : Reg) (s : State) : Res :=
  guarded (errWriteCheck .ras s) (fun s =>
    if s.errselrUndefined then s.raise .undefined
    else (s.writeErrselr (s.readGpr t)).finish) s

end Sys2Proof.Machine
end

