-- ==== Sys2Proof/Machine/Erx.lean ====
section
/-! DEFINITION. The accesses through the fifteen ERX windows (43_erx_addr_ctlr_fr.md, 44_erxmisc.md, 45_erxstatus.md;
the window map is 10_state.md R33). -/

namespace Sys2Proof.Machine

open Sys2Proof

/-- MRC ERXADDR: half lo of ERR<n>ADDR (43_erx_addr_ctlr_fr.md R170). -/
def execMrcErxaddr (_c : Cond) (t : Reg) (s : State) : Res :=
  guarded (errReadCheck .ras s) (erxRead .addr .lo t) s

/-- MCR ERXADDR: half lo of ERR<n>ADDR (43_erx_addr_ctlr_fr.md R171). -/
def execMcrErxaddr (_c : Cond) (t : Reg) (s : State) : Res :=
  guarded (errWriteCheck .ras s) (erxWrite .addr .lo t) s

/-- MRC ERXADDR2: half hi of ERR<n>ADDR (43_erx_addr_ctlr_fr.md R172). -/
def execMrcErxaddr2 (_c : Cond) (t : Reg) (s : State) : Res :=
  guarded (errReadCheck .ras s) (erxRead .addr .hi t) s

/-- MCR ERXADDR2: half hi of ERR<n>ADDR (43_erx_addr_ctlr_fr.md R173). -/
def execMcrErxaddr2 (_c : Cond) (t : Reg) (s : State) : Res :=
  guarded (errWriteCheck .ras s) (erxWrite .addr .hi t) s

/-- MRC ERXCTLR: half lo of ERR<n>CTLR (43_erx_addr_ctlr_fr.md R174). -/
def execMrcErxctlr (_c : Cond) (t : Reg) (s : State) : Res :=
  guarded (errReadCheck .ras s) (erxRead .ctlr .lo t) s

/-- MCR ERXCTLR: half lo of ERR<n>CTLR (43_erx_addr_ctlr_fr.md R175). -/
def execMcrErxctlr (_c : Cond) (t : Reg) (s : State) : Res :=
  guarded (errWriteCheck .ras s) (erxWrite .ctlr .lo t) s

/-- MRC ERXCTLR2: half hi of ERR<n>CTLR (43_erx_addr_ctlr_fr.md R176). -/
def execMrcErxctlr2 (_c : Cond) (t : Reg) (s : State) : Res :=
  guarded (errReadCheck .ras s) (erxRead .ctlr .hi t) s

/-- MCR ERXCTLR2: half hi of ERR<n>CTLR (43_erx_addr_ctlr_fr.md R177). -/
def execMcrErxctlr2 (_c : Cond) (t : Reg) (s : State) : Res :=
  guarded (errWriteCheck .ras s) (erxWrite .ctlr .hi t) s

/-- MRC ERXFR: half lo of ERR<n>FR (43_erx_addr_ctlr_fr.md R178). -/
def execMrcErxfr (_c : Cond) (t : Reg) (s : State) : Res :=
  guarded (errReadCheck .ras s) (erxRead .fr .lo t) s

/-- MRC ERXFR2: half hi of ERR<n>FR (43_erx_addr_ctlr_fr.md R179). -/
def execMrcErxfr2 (_c : Cond) (t : Reg) (s : State) : Res :=
  guarded (errReadCheck .ras s) (erxRead .fr .hi t) s

/-- MRC ERXMISC0: half lo of ERR<n>MISC0 (44_erxmisc.md R190). -/
def execMrcErxmisc0 (_c : Cond) (t : Reg) (s : State) : Res :=
  guarded (errReadCheck .ras s) (erxRead .misc0 .lo t) s

/-- MCR ERXMISC0: half lo of ERR<n>MISC0 (44_erxmisc.md R191). -/
def execMcrErxmisc0 (_c : Cond) (t : Reg) (s : State) : Res :=
  guarded (errWriteCheck .ras s) (erxWrite .misc0 .lo t) s

/-- MRC ERXMISC1: half hi of ERR<n>MISC0 (44_erxmisc.md R192). -/
def execMrcErxmisc1 (_c : Cond) (t : Reg) (s : State) : Res :=
  guarded (errReadCheck .ras s) (erxRead .misc0 .hi t) s

/-- MCR ERXMISC1: half hi of ERR<n>MISC0 (44_erxmisc.md R193). -/
def execMcrErxmisc1 (_c : Cond) (t : Reg) (s : State) : Res :=
  guarded (errWriteCheck .ras s) (erxWrite .misc0 .hi t) s

/-- MRC ERXMISC2: half lo of ERR<n>MISC1 (44_erxmisc.md R194). -/
def execMrcErxmisc2 (_c : Cond) (t : Reg) (s : State) : Res :=
  guarded (errReadCheck .ras s) (erxRead .misc1 .lo t) s

/-- MCR ERXMISC2: half lo of ERR<n>MISC1 (44_erxmisc.md R195). -/
def execMcrErxmisc2 (_c : Cond) (t : Reg) (s : State) : Res :=
  guarded (errWriteCheck .ras s) (erxWrite .misc1 .lo t) s

/-- MRC ERXMISC3: half hi of ERR<n>MISC1 (44_erxmisc.md R196). -/
def execMrcErxmisc3 (_c : Cond) (t : Reg) (s : State) : Res :=
  guarded (errReadCheck .ras s) (erxRead .misc1 .hi t) s

/-- MCR ERXMISC3: half hi of ERR<n>MISC1 (44_erxmisc.md R197). -/
def execMcrErxmisc3 (_c : Cond) (t : Reg) (s : State) : Res :=
  guarded (errWriteCheck .ras s) (erxWrite .misc1 .hi t) s

/-- MRC ERXMISC4: half lo of ERR<n>MISC2 (44_erxmisc.md R198). -/
def execMrcErxmisc4 (_c : Cond) (t : Reg) (s : State) : Res :=
  guarded (errReadCheck .rasv1p1 s) (erxRead .misc2 .lo t) s

/-- MCR ERXMISC4: half lo of ERR<n>MISC2 (44_erxmisc.md R199). -/
def execMcrErxmisc4 (_c : Cond) (t : Reg) (s : State) : Res :=
  guarded (errWriteCheck .rasv1p1 s) (erxWrite .misc2 .lo t) s

/-- MRC ERXMISC5: half hi of ERR<n>MISC2 (44_erxmisc.md R200). -/
def execMrcErxmisc5 (_c : Cond) (t : Reg) (s : State) : Res :=
  guarded (errReadCheck .rasv1p1 s) (erxRead .misc2 .hi t) s

/-- MCR ERXMISC5: half hi of ERR<n>MISC2 (44_erxmisc.md R201). -/
def execMcrErxmisc5 (_c : Cond) (t : Reg) (s : State) : Res :=
  guarded (errWriteCheck .rasv1p1 s) (erxWrite .misc2 .hi t) s

/-- MRC ERXMISC6: half lo of ERR<n>MISC3 (44_erxmisc.md R202). -/
def execMrcErxmisc6 (_c : Cond) (t : Reg) (s : State) : Res :=
  guarded (errReadCheck .rasv1p1 s) (erxRead .misc3 .lo t) s

/-- MCR ERXMISC6: half lo of ERR<n>MISC3 (44_erxmisc.md R203). -/
def execMcrErxmisc6 (_c : Cond) (t : Reg) (s : State) : Res :=
  guarded (errWriteCheck .rasv1p1 s) (erxWrite .misc3 .lo t) s

/-- MRC ERXMISC7: half hi of ERR<n>MISC3 (44_erxmisc.md R204). -/
def execMrcErxmisc7 (_c : Cond) (t : Reg) (s : State) : Res :=
  guarded (errReadCheck .rasv1p1 s) (erxRead .misc3 .hi t) s

/-- MCR ERXMISC7: half hi of ERR<n>MISC3 (44_erxmisc.md R205). -/
def execMcrErxmisc7 (_c : Cond) (t : Reg) (s : State) : Res :=
  guarded (errWriteCheck .rasv1p1 s) (erxWrite .misc3 .hi t) s

/-- MRC ERXSTATUS: half lo of ERR<n>STATUS (45_erxstatus.md R220). -/
def execMrcErxstatus (_c : Cond) (t : Reg) (s : State) : Res :=
  guarded (errReadCheck .ras s) (erxRead .status .lo t) s

/-- MCR ERXSTATUS: half lo of ERR<n>STATUS (45_erxstatus.md R221). -/
def execMcrErxstatus (_c : Cond) (t : Reg) (s : State) : Res :=
  guarded (errWriteCheck .ras s) (erxWrite .status .lo t) s

end Sys2Proof.Machine
end

