-- ==== Sys2Proof/Machine/Esb.lean ====
section
/-! DEFINITION. The ESB instruction and the two deferrals it can make (47_esb_indirect.md). -/

namespace Sys2Proof.Machine

open Sys2Proof

/-- The word an ESB at the current Exception level records for a physical SError: the layout is (a) at EL2, else (b) or
(c) by TTBCR.EAE, at EL3 too (47_esb_indirect.md R251, D10; log 18). -/
def State.physicalSyndrome (s : State) (syn : Syndrome) : Word :=
  if s.ctx.el = .el2 then hypSyndrome syn.aet syn.ea syn.dfsc
  else if s.ctx.ttbcrEAE then longSyndrome syn.aet syn.ext syn.status
  else shortSyndrome syn.aet syn.ext syn.fs

/-- `EsbDefersPhysical(syn)`: DISR is replaced whole (47_esb_indirect.md R251, D9). -/
def State.esbDefersPhysical (s : State) (syn : Syndrome) : State := { s with disr := s.physicalSyndrome syn }

/-- The word an ESB records for a virtual SError: VDFSR.AET and VDFSR.ExT, the layout and code by TTBCR.EAE
(47_esb_indirect.md R252). -/
def State.virtualSyndrome (s : State) : Word :=
  if s.ctx.ttbcrEAE then longSyndrome (vdfsrAET s.vdfsr) (vdfsrExT s.vdfsr) asyncSErrorStatus
  else shortSyndrome (vdfsrAET s.vdfsr) (vdfsrExT s.vdfsr) asyncSErrorFS

/-- `EsbDefersVirtual`: VDISR is replaced whole (47_esb_indirect.md R252, D9). -/
def State.esbDefersVirtual (s : State) : State := { s with vdisr := s.virtualSyndrome }

/-- When the environment may raise `EsbDefersPhysical` (47_esb_indirect.md R256(a)). -/
def State.physicalAdmissible (s : State) : Bool := s.impl.hasEsbSyncSError

/-- When the environment may raise `EsbDefersVirtual` (47_esb_indirect.md R256(b), (c)). -/
def State.virtualAdmissible (s : State) : Bool := s.impl.haveEL2 && (s.ctx.el == .el0 || s.ctx.el == .el1)

/-- The physical deferral of this ESB, if the environment raises it and may. -/
def State.esbPhysicalPart (s : State) : State :=
  match s.esb.physical with
  | some syn => if s.physicalAdmissible then s.esbDefersPhysical syn else s
  | none => s

/-- The virtual deferral of this ESB, if the environment raises it and may. -/
def State.esbVirtualPart (s : State) : State :=
  if s.esb.virtual && s.virtualAdmissible then s.esbDefersVirtual else s

/-- ESB: "the environment chooses none, one, or both deferral events, physical first" (47_esb_indirect.md R250, R256(e));
without the RAS Extension it executes as NOP (30_encoding.md R112; log 17). -/
def execEsb (_c : Cond) (s : State) : Res :=
  if hasFeature s.impl .ras then s.esbPhysicalPart.esbVirtualPart.finish else s.finish

end Sys2Proof.Machine
end

