-- ==== Sys2Proof/Machine/Virt.lean ====
section
/-! DEFINITION. The accesses to VDFSR and VDISR by their own encodings (46_vdfsr_vdisr.md). -/

namespace Sys2Proof.Machine

open Sys2Proof

/-- MRC VDFSR (46_vdfsr_vdisr.md R230). -/
def execMrcVdfsr (_c : Cond) (t : Reg) (s : State) : Res :=
  guarded (vdfsrCheck s) (fun s => (s.writeGpr t s.vdfsr).finish) s

/-- MCR VDFSR (46_vdfsr_vdisr.md R231). -/
def execMcrVdfsr (_c : Cond) (t : Reg) (s : State) : Res :=
  guarded (vdfsrCheck s) (fun s => (s.writeVdfsr (s.readGpr t)).finish) s

/-- MRC VDISR (46_vdfsr_vdisr.md R232). -/
def execMrcVdisr (_c : Cond) (t : Reg) (s : State) : Res :=
  guarded (vdisrCheck s) (fun s => (s.writeGpr t s.vdisr).finish) s

/-- MCR VDISR (46_vdfsr_vdisr.md R233). -/
def execMcrVdisr (_c : Cond) (t : Reg) (s : State) : Res :=
  guarded (vdisrCheck s) (fun s => (s.writeVdisr (s.readGpr t)).finish) s

end Sys2Proof.Machine
end

