-- ==== Sys2Proof/Machine/Dispatch.lean ====
section
/-! DEFINITION. Dispatch: one arm per constructor of Instr, in the order of spec/opcode_table.json. -/

namespace Sys2Proof.Machine

open Sys2Proof

def exec (i : Instr) (s : State) : Host.Outcome State Fault Refusal :=
  match i with
  | .mrcDisr c rt => Sys2Proof.Machine.execMrcDisr c rt s
  | .mcrDisr c rt => Sys2Proof.Machine.execMcrDisr c rt s
  | .mrcErridr c rt => Sys2Proof.Machine.execMrcErridr c rt s
  | .mrcErrselr c rt => Sys2Proof.Machine.execMrcErrselr c rt s
  | .mcrErrselr c rt => Sys2Proof.Machine.execMcrErrselr c rt s
  | .mrcErxaddr c rt => Sys2Proof.Machine.execMrcErxaddr c rt s
  | .mcrErxaddr c rt => Sys2Proof.Machine.execMcrErxaddr c rt s
  | .mrcErxaddr2 c rt => Sys2Proof.Machine.execMrcErxaddr2 c rt s
  | .mcrErxaddr2 c rt => Sys2Proof.Machine.execMcrErxaddr2 c rt s
  | .mrcErxctlr c rt => Sys2Proof.Machine.execMrcErxctlr c rt s
  | .mcrErxctlr c rt => Sys2Proof.Machine.execMcrErxctlr c rt s
  | .mrcErxctlr2 c rt => Sys2Proof.Machine.execMrcErxctlr2 c rt s
  | .mcrErxctlr2 c rt => Sys2Proof.Machine.execMcrErxctlr2 c rt s
  | .mrcErxfr c rt => Sys2Proof.Machine.execMrcErxfr c rt s
  | .mrcErxfr2 c rt => Sys2Proof.Machine.execMrcErxfr2 c rt s
  | .mrcErxmisc0 c rt => Sys2Proof.Machine.execMrcErxmisc0 c rt s
  | .mcrErxmisc0 c rt => Sys2Proof.Machine.execMcrErxmisc0 c rt s
  | .mrcErxmisc1 c rt => Sys2Proof.Machine.execMrcErxmisc1 c rt s
  | .mcrErxmisc1 c rt => Sys2Proof.Machine.execMcrErxmisc1 c rt s
  | .mrcErxmisc2 c rt => Sys2Proof.Machine.execMrcErxmisc2 c rt s
  | .mcrErxmisc2 c rt => Sys2Proof.Machine.execMcrErxmisc2 c rt s
  | .mrcErxmisc3 c rt => Sys2Proof.Machine.execMrcErxmisc3 c rt s
  | .mcrErxmisc3 c rt => Sys2Proof.Machine.execMcrErxmisc3 c rt s
  | .mrcErxmisc4 c rt => Sys2Proof.Machine.execMrcErxmisc4 c rt s
  | .mcrErxmisc4 c rt => Sys2Proof.Machine.execMcrErxmisc4 c rt s
  | .mrcErxmisc5 c rt => Sys2Proof.Machine.execMrcErxmisc5 c rt s
  | .mcrErxmisc5 c rt => Sys2Proof.Machine.execMcrErxmisc5 c rt s
  | .mrcErxmisc6 c rt => Sys2Proof.Machine.execMrcErxmisc6 c rt s
  | .mcrErxmisc6 c rt => Sys2Proof.Machine.execMcrErxmisc6 c rt s
  | .mrcErxmisc7 c rt => Sys2Proof.Machine.execMrcErxmisc7 c rt s
  | .mcrErxmisc7 c rt => Sys2Proof.Machine.execMcrErxmisc7 c rt s
  | .mrcErxstatus c rt => Sys2Proof.Machine.execMrcErxstatus c rt s
  | .mcrErxstatus c rt => Sys2Proof.Machine.execMcrErxstatus c rt s
  | .mrcVdfsr c rt => Sys2Proof.Machine.execMrcVdfsr c rt s
  | .mcrVdfsr c rt => Sys2Proof.Machine.execMcrVdfsr c rt s
  | .mrcVdisr c rt => Sys2Proof.Machine.execMrcVdisr c rt s
  | .mcrVdisr c rt => Sys2Proof.Machine.execMcrVdisr c rt s
  | .esb c => Sys2Proof.Machine.execEsb c s

end Sys2Proof.Machine
end

