-- ==== Sys2Proof/Machine/Events.lean ====
section
/-! DEFINITION. The steps that are no instruction: a virtual SError taken, a node writing a record, a Warm reset, a
boundary (00_scope.md R9). -/

namespace Sys2Proof.Machine

open Sys2Proof

/-- When the environment may raise `VirtualSErrorTaken` (47_esb_indirect.md R256(b), (d)). -/
def State.takenAdmissible (s : State) : Bool := s.impl.haveEL2 && (s.ctx.el == .el0 || s.ctx.el == .el1)

/-- `VirtualSErrorTaken`: an output, and no register changes (47_esb_indirect.md R253). -/
def virtualSErrorTaken (s : State) : Res :=
  if s.takenAdmissible then
    .next { s with result := .virtualSErrorReported (vdfsrAET s.vdfsr) (vdfsrExT s.vdfsr) }
  else .refused .eventNotAdmissible

/-- A node replaces `Rec[n].K`, for n below NUM (10_state.md R49(b), D16). -/
def nodeWritesRecord (n : Nat) (k : RecReg) (v : DWord) (s : State) : Res :=
  if n < s.impl.num.toNat then (s.writeRecReg n k v).finish else .refused .eventNotAdmissible

/-- `UNKNOWN(32) & FIELDMASK | reserved_reset(X)` with the draws numbered d and d + 1 (70_reset_and_hazards.md R301). -/
def resetWord (p : Impl) (fieldMask : Word) (d : Nat) : Word :=
  (Config.unknown32 d &&& fieldMask) ||| (match p.res0Storage with
    | .hardwired0 => 0
    | .readback => Config.unknown32 (d + 1) &&& ~~~fieldMask)

/-- A record with every register drawn, from draw number d on (70_reset_and_hazards.md R301). -/
def resetRecord (d : Nat) : Record :=
  { fr := Config.unknown64 d, ctlr := Config.unknown64 (d + 1), status := Config.unknown64 (d + 2),
    addr := Config.unknown64 (d + 3), misc0 := Config.unknown64 (d + 4), misc1 := Config.unknown64 (d + 5),
    misc2 := Config.unknown64 (d + 6), misc3 := Config.unknown64 (d + 7) }

/-- `WarmReset` (70_reset_and_hazards.md R301): DISR, SEL, VDFSR, VDISR and every record register are drawn, reserved bits
as RES0_STORAGE says; the parameters, R[t] and the context inputs are not touched (R303). -/
def warmReset (s : State) : Res :=
  let d := s.draws
  { s with
    disr := resetWord s.impl (disrFieldMask s.impl) d
    vdfsr := resetWord s.impl (vdfsrFieldMask s.impl) (d + 2)
    vdisr := resetWord s.impl (vdisrFieldMask s.impl) (d + 4)
    sel := Config.unknown16 (d + 6)
    errselrHi := match s.impl.res0Storage with
      | .hardwired0 => 0
      | .readback => Config.unknown16 (d + 7)
    recs := (List.range s.impl.num.toNat).map (fun n => resetRecord (d + 8 + 8 * n))
    draws := d + 8 + 8 * s.impl.num.toNat : State }.finish

/-- A boundary outside the model: no effect (70_reset_and_hazards.md R305, R306; log 29). -/
def boundary (s : State) : Res := s.finish

end Sys2Proof.Machine
end

