-- ==== Sys2Proof/Machine/Fetch.lean ====
section
/-! DEFINITION. The queue of step inputs, from which a step takes what it runs. The source has no program counter and no
memory to fetch from (10_state.md R47; 20_memory.md R80; log 1, log 7). -/

namespace Sys2Proof.Machine

open Sys2Proof

/-- The state in which a step runs: its input has left the queue, and its context and ESB choice are current
(10_state.md R45, D15: "supplied afresh at every step"). -/
def State.takeInput (s : State) (inp : StepInput) (rest : List StepInput) : State :=
  { s with ctx := inp.ctx, esb := inp.esb, inputs := rest }

/-- A step placed at the head of the queue, with the current context and ESB choice. -/
def State.placeInput (s : State) (k : StepKind) : State :=
  { s with inputs := { ctx := s.ctx, esb := s.esb, kind := k } :: s.inputs }

end Sys2Proof.Machine
end

