-- ==== Sys2Proof/Machine/Step.lean ====
section
/-! DEFINITION. The step function: the next entry of the queue of step inputs is taken and run (00_scope.md R9; log 1). -/

namespace Sys2Proof.Machine

open Sys2Proof

/-- Run what the decoder answered. -/
def execDecoded (d : Except DecodeError Instr) (s : State) : Host.Outcome State Fault Refusal :=
  match d with
  | .ok i => exec i s
  | .error e => .refused (.undecodable e)

/-- Run one step of a given kind. -/
def runKind (k : StepKind) (s : State) : Host.Outcome State Fault Refusal :=
  match k with
  | .a32 w => execDecoded (decodeA32 w) s
  | .t32 hw1 hw2 => execDecoded (decodeT32 hw1 hw2) s
  | .virtualSErrorTaken => virtualSErrorTaken s
  | .nodeWritesRecord n k v => nodeWritesRecord n k v s
  | .warmReset => warmReset s
  | .boundary => boundary s

/-- One step: the next step input is taken from the queue, its context becomes current, and it runs. -/
def step (s : State) : Host.Outcome State Fault Refusal :=
  match s.inputs with
  | [] => .fault .noInput
  | inp :: rest => runKind inp.kind (s.takeInput inp rest)

/-- The state in which the next step fetches and runs the A32 word of an opcode-table row, in the current context. -/
def State.withFetchWord (s : State) (nbits w : Nat) : State := s.placeInput (.a32 (BitVec.ofNat 32 (w % 2 ^ nbits)))

end Sys2Proof.Machine
end

