-- ==== Sys2Proof/Safety.lean ====
section
/-! DEFINITION. What the statements speak of: the invariant of the machine, the groups of instructions, and when an
access is performed, written from the tables of causes (60_exceptions.md R261 to R263, 40_access_common.md R132) and
not from the listings. -/

namespace Sys2Proof

/-! ### Groups of instructions -/

/-- The register groups of 40_access_common.md R132. -/
inductive Group where
  | disr | err | vdfsr | vdisr | esb
  deriving DecidableEq, Repr

/-- The group of an instruction. -/
def Instr.group : Instr → Group
  | .mrcDisr _ _ => .disr
  | .mcrDisr _ _ => .disr
  | .mrcErridr _ _ => .err
  | .mrcErrselr _ _ => .err
  | .mcrErrselr _ _ => .err
  | .mrcErxaddr _ _ => .err
  | .mcrErxaddr _ _ => .err
  | .mrcErxaddr2 _ _ => .err
  | .mcrErxaddr2 _ _ => .err
  | .mrcErxctlr _ _ => .err
  | .mcrErxctlr _ _ => .err
  | .mrcErxctlr2 _ _ => .err
  | .mcrErxctlr2 _ _ => .err
  | .mrcErxfr _ _ => .err
  | .mrcErxfr2 _ _ => .err
  | .mrcErxmisc0 _ _ => .err
  | .mcrErxmisc0 _ _ => .err
  | .mrcErxmisc1 _ _ => .err
  | .mcrErxmisc1 _ _ => .err
  | .mrcErxmisc2 _ _ => .err
  | .mcrErxmisc2 _ _ => .err
  | .mrcErxmisc3 _ _ => .err
  | .mcrErxmisc3 _ _ => .err
  | .mrcErxmisc4 _ _ => .err
  | .mcrErxmisc4 _ _ => .err
  | .mrcErxmisc5 _ _ => .err
  | .mcrErxmisc5 _ _ => .err
  | .mrcErxmisc6 _ _ => .err
  | .mcrErxmisc6 _ _ => .err
  | .mrcErxmisc7 _ _ => .err
  | .mcrErxmisc7 _ _ => .err
  | .mrcErxstatus _ _ => .err
  | .mcrErxstatus _ _ => .err
  | .mrcVdfsr _ _ => .vdfsr
  | .mcrVdfsr _ _ => .vdfsr
  | .mrcVdisr _ _ => .vdisr
  | .mcrVdisr _ _ => .vdisr
  | .esb _ => .esb

/-- The RAS feature whose presence an access tests (40_access_common.md R121); ESB has no such check. -/
def Instr.feature : Instr → Feature
  | .mrcDisr _ _ => .ras
  | .mcrDisr _ _ => .ras
  | .mrcErridr _ _ => .ras
  | .mrcErrselr _ _ => .ras
  | .mcrErrselr _ _ => .ras
  | .mrcErxaddr _ _ => .ras
  | .mcrErxaddr _ _ => .ras
  | .mrcErxaddr2 _ _ => .ras
  | .mcrErxaddr2 _ _ => .ras
  | .mrcErxctlr _ _ => .ras
  | .mcrErxctlr _ _ => .ras
  | .mrcErxctlr2 _ _ => .ras
  | .mcrErxctlr2 _ _ => .ras
  | .mrcErxfr _ _ => .ras
  | .mrcErxfr2 _ _ => .ras
  | .mrcErxmisc0 _ _ => .ras
  | .mcrErxmisc0 _ _ => .ras
  | .mrcErxmisc1 _ _ => .ras
  | .mcrErxmisc1 _ _ => .ras
  | .mrcErxmisc2 _ _ => .ras
  | .mcrErxmisc2 _ _ => .ras
  | .mrcErxmisc3 _ _ => .ras
  | .mcrErxmisc3 _ _ => .ras
  | .mrcErxmisc4 _ _ => .rasv1p1
  | .mcrErxmisc4 _ _ => .rasv1p1
  | .mrcErxmisc5 _ _ => .rasv1p1
  | .mcrErxmisc5 _ _ => .rasv1p1
  | .mrcErxmisc6 _ _ => .rasv1p1
  | .mcrErxmisc6 _ _ => .rasv1p1
  | .mrcErxmisc7 _ _ => .rasv1p1
  | .mcrErxmisc7 _ _ => .rasv1p1
  | .mrcErxstatus _ _ => .ras
  | .mcrErxstatus _ _ => .ras
  | .mrcVdfsr _ _ => .ras
  | .mcrVdfsr _ _ => .ras
  | .mrcVdisr _ _ => .ras
  | .mcrVdisr _ _ => .ras
  | .esb _ => .ras

/-- Whether an instruction is an MCR. -/
def Instr.isMcr : Instr → Bool
  | .mrcDisr _ _ => false
  | .mcrDisr _ _ => true
  | .mrcErridr _ _ => false
  | .mrcErrselr _ _ => false
  | .mcrErrselr _ _ => true
  | .mrcErxaddr _ _ => false
  | .mcrErxaddr _ _ => true
  | .mrcErxaddr2 _ _ => false
  | .mcrErxaddr2 _ _ => true
  | .mrcErxctlr _ _ => false
  | .mcrErxctlr _ _ => true
  | .mrcErxctlr2 _ _ => false
  | .mcrErxctlr2 _ _ => true
  | .mrcErxfr _ _ => false
  | .mrcErxfr2 _ _ => false
  | .mrcErxmisc0 _ _ => false
  | .mcrErxmisc0 _ _ => true
  | .mrcErxmisc1 _ _ => false
  | .mcrErxmisc1 _ _ => true
  | .mrcErxmisc2 _ _ => false
  | .mcrErxmisc2 _ _ => true
  | .mrcErxmisc3 _ _ => false
  | .mcrErxmisc3 _ _ => true
  | .mrcErxmisc4 _ _ => false
  | .mcrErxmisc4 _ _ => true
  | .mrcErxmisc5 _ _ => false
  | .mcrErxmisc5 _ _ => true
  | .mrcErxmisc6 _ _ => false
  | .mcrErxmisc6 _ _ => true
  | .mrcErxmisc7 _ _ => false
  | .mcrErxmisc7 _ _ => true
  | .mrcErxstatus _ _ => false
  | .mcrErxstatus _ _ => true
  | .mrcVdfsr _ _ => false
  | .mcrVdfsr _ _ => true
  | .mrcVdisr _ _ => false
  | .mcrVdisr _ _ => true
  | .esb _ => false

/-- Whether an instruction is an MRC. -/
def Instr.isMrc (i : Instr) : Bool := !i.isMcr && i.group != .esb

/-- Whether an instruction is a write through an ERX window. -/
def Instr.isErxWrite : Instr → Bool
  | .mrcDisr _ _ => false
  | .mcrDisr _ _ => false
  | .mrcErridr _ _ => false
  | .mrcErrselr _ _ => false
  | .mcrErrselr _ _ => false
  | .mrcErxaddr _ _ => false
  | .mcrErxaddr _ _ => true
  | .mrcErxaddr2 _ _ => false
  | .mcrErxaddr2 _ _ => true
  | .mrcErxctlr _ _ => false
  | .mcrErxctlr _ _ => true
  | .mrcErxctlr2 _ _ => false
  | .mcrErxctlr2 _ _ => true
  | .mrcErxfr _ _ => false
  | .mrcErxfr2 _ _ => false
  | .mrcErxmisc0 _ _ => false
  | .mcrErxmisc0 _ _ => true
  | .mrcErxmisc1 _ _ => false
  | .mcrErxmisc1 _ _ => true
  | .mrcErxmisc2 _ _ => false
  | .mcrErxmisc2 _ _ => true
  | .mrcErxmisc3 _ _ => false
  | .mcrErxmisc3 _ _ => true
  | .mrcErxmisc4 _ _ => false
  | .mcrErxmisc4 _ _ => true
  | .mrcErxmisc5 _ _ => false
  | .mcrErxmisc5 _ _ => true
  | .mrcErxmisc6 _ _ => false
  | .mcrErxmisc6 _ _ => true
  | .mrcErxmisc7 _ _ => false
  | .mcrErxmisc7 _ _ => true
  | .mrcErxstatus _ _ => false
  | .mcrErxstatus _ _ => true
  | .mrcVdfsr _ _ => false
  | .mcrVdfsr _ _ => false
  | .mrcVdisr _ _ => false
  | .mcrVdisr _ _ => false
  | .esb _ => false

/-- The transfer register an instruction names. -/
def Instr.rt : Instr → Option Reg
  | .mrcDisr _ t => some t
  | .mcrDisr _ t => some t
  | .mrcErridr _ t => some t
  | .mrcErrselr _ t => some t
  | .mcrErrselr _ t => some t
  | .mrcErxaddr _ t => some t
  | .mcrErxaddr _ t => some t
  | .mrcErxaddr2 _ t => some t
  | .mcrErxaddr2 _ t => some t
  | .mrcErxctlr _ t => some t
  | .mcrErxctlr _ t => some t
  | .mrcErxctlr2 _ t => some t
  | .mcrErxctlr2 _ t => some t
  | .mrcErxfr _ t => some t
  | .mrcErxfr2 _ t => some t
  | .mrcErxmisc0 _ t => some t
  | .mcrErxmisc0 _ t => some t
  | .mrcErxmisc1 _ t => some t
  | .mcrErxmisc1 _ t => some t
  | .mrcErxmisc2 _ t => some t
  | .mcrErxmisc2 _ t => some t
  | .mrcErxmisc3 _ t => some t
  | .mcrErxmisc3 _ t => some t
  | .mrcErxmisc4 _ t => some t
  | .mcrErxmisc4 _ t => some t
  | .mrcErxmisc5 _ t => some t
  | .mcrErxmisc5 _ t => some t
  | .mrcErxmisc6 _ t => some t
  | .mcrErxmisc6 _ t => some t
  | .mrcErxmisc7 _ t => some t
  | .mcrErxmisc7 _ t => some t
  | .mrcErxstatus _ t => some t
  | .mcrErxstatus _ t => some t
  | .mrcVdfsr _ t => some t
  | .mcrVdfsr _ t => some t
  | .mrcVdisr _ t => some t
  | .mcrVdisr _ t => some t
  | .esb _ => none

/-- An access through an ERX window: the instruction, the record register and half it reaches, and the feature it needs
(10_state.md R33; 40_access_common.md R121). -/
structure Window where
  access : Cond → Reg → Instr
  reg : RecReg
  half : Half
  feature : Feature

/-- The fifteen reads (10_state.md R33). -/
def windowReads : List Window :=
  [ { access := .mrcErxaddr, reg := .addr, half := .lo, feature := .ras }
  , { access := .mrcErxaddr2, reg := .addr, half := .hi, feature := .ras }
  , { access := .mrcErxctlr, reg := .ctlr, half := .lo, feature := .ras }
  , { access := .mrcErxctlr2, reg := .ctlr, half := .hi, feature := .ras }
  , { access := .mrcErxfr, reg := .fr, half := .lo, feature := .ras }
  , { access := .mrcErxfr2, reg := .fr, half := .hi, feature := .ras }
  , { access := .mrcErxmisc0, reg := .misc0, half := .lo, feature := .ras }
  , { access := .mrcErxmisc1, reg := .misc0, half := .hi, feature := .ras }
  , { access := .mrcErxmisc2, reg := .misc1, half := .lo, feature := .ras }
  , { access := .mrcErxmisc3, reg := .misc1, half := .hi, feature := .ras }
  , { access := .mrcErxmisc4, reg := .misc2, half := .lo, feature := .rasv1p1 }
  , { access := .mrcErxmisc5, reg := .misc2, half := .hi, feature := .rasv1p1 }
  , { access := .mrcErxmisc6, reg := .misc3, half := .lo, feature := .rasv1p1 }
  , { access := .mrcErxmisc7, reg := .misc3, half := .hi, feature := .rasv1p1 }
  , { access := .mrcErxstatus, reg := .status, half := .lo, feature := .ras } ]

/-- The thirteen writes (10_state.md R33, R37). -/
def windowWrites : List Window :=
  [ { access := .mcrErxaddr, reg := .addr, half := .lo, feature := .ras }
  , { access := .mcrErxaddr2, reg := .addr, half := .hi, feature := .ras }
  , { access := .mcrErxctlr, reg := .ctlr, half := .lo, feature := .ras }
  , { access := .mcrErxctlr2, reg := .ctlr, half := .hi, feature := .ras }
  , { access := .mcrErxmisc0, reg := .misc0, half := .lo, feature := .ras }
  , { access := .mcrErxmisc1, reg := .misc0, half := .hi, feature := .ras }
  , { access := .mcrErxmisc2, reg := .misc1, half := .lo, feature := .ras }
  , { access := .mcrErxmisc3, reg := .misc1, half := .hi, feature := .ras }
  , { access := .mcrErxmisc4, reg := .misc2, half := .lo, feature := .rasv1p1 }
  , { access := .mcrErxmisc5, reg := .misc2, half := .hi, feature := .rasv1p1 }
  , { access := .mcrErxmisc6, reg := .misc3, half := .lo, feature := .rasv1p1 }
  , { access := .mcrErxmisc7, reg := .misc3, half := .hi, feature := .rasv1p1 }
  , { access := .mcrErxstatus, reg := .status, half := .lo, feature := .ras } ]

end Sys2Proof

namespace Sys2Proof.Machine

open Sys2Proof

/-! ### The invariant -/

/-- There is one record for each index below NUM (10_state.md R32). -/
abbrev State.recordsComplete (s : State) : Prop := s.recs.length = s.impl.num.toNat

/-- Under `hardwired0` every reserved bit of the owned registers is zero (40_access_common.md R131). -/
abbrev State.reservedZero (s : State) : Prop :=
  s.impl.res0Storage = .hardwired0 →
    s.disr &&& ~~~disrFieldMask s.impl = 0 ∧ s.vdisr &&& ~~~vdisrFieldMask s.impl = 0 ∧
    s.vdfsr &&& ~~~vdfsrFieldMask s.impl = 0 ∧ s.errselrHi = 0

/-- The invariant every step keeps. -/
abbrev State.Inv (s : State) : Prop := s.recordsComplete ∧ s.reservedZero

/-! ### When an access is performed -/

/-- An EL2 control traps an EL1 access of the ERR group to EL2 using AArch64 (60_exceptions.md R262). -/
def State.errTrapsToEL2A64 (s : State) : Bool := s.el2A64 && (s.ctx.hstrEL2T5 || s.ctx.hcrEL2TERR)

/-- An EL2 control traps an EL1 access of the ERR group to EL2 using AArch32 (60_exceptions.md R262). -/
def State.errTrapsToEL2A32 (s : State) : Bool := s.el2A32 && (s.ctx.hstrT5 || s.ctx.hcr2TERR)

/-- The EL3 control that applies to an ERR access is set, EL3 using AArch64: SCR_EL3.TERR, or SCR_EL3.TWERR for a write
(60_exceptions.md R263). -/
def State.errControlEL3A64 (write : Bool) (s : State) : Bool :=
  s.el3A64 && (s.ctx.scrEL3TERR || (write && s.ctx.scrEL3TWERR))

/-- The EL3 control that applies to an ERR access is set, EL3 using AArch32: SCR.TERR (60_exceptions.md R263). -/
def State.errControlEL3A32 (s : State) : Bool := s.el3A32 && s.ctx.scrTERR

/-- No cause of 60_exceptions.md R261(a) to (d), R262 or R263 applies to an access of the ERR group: it is performed. -/
def State.errOpen (write : Bool) (f : Feature) (s : State) : Bool :=
  s.present f && match s.ctx.el with
    | .el0 => false
    | .el1 => !s.errTrapsToEL2A64 && !s.errTrapsToEL2A32 && !s.errControlEL3A64 write
        && !(s.errControlEL3A32 && (s.ctx.el3SDDUndefPriority || !s.ctx.isMonitor))
    | .el2 => !s.errControlEL3A64 write && !s.errControlEL3A32
    | .el3 => s.ctx.isMonitor || !s.ctx.scrTERR

/-- VDFSR and VDISR by their own encodings are performed at EL2, and at EL3 with SCR.NS == 1 (40_access_common.md R132). -/
def State.virtOpen (s : State) : Bool := s.present .ras && (s.ctx.el == .el2 || (s.ctx.el == .el3 && s.ctx.scrNS))

/-- HSTR.T12 or HSTR_EL2.T12 traps the DISR encoding (60_exceptions.md R262). -/
def State.disrTrapped (s : State) : Bool := (s.el2A64 && s.ctx.hstrEL2T12) || (s.el2A32 && s.ctx.hstrT12)

/-- EL2 routes SErrors to itself (40_access_common.md R132). -/
def State.el2RoutesSError (s : State) : Bool := s.el2A64OwnsSError || (s.el2A32 && s.ctx.hcrAMO)

/-- The DISR encoding reaches VDISR. -/
def State.disrRedirected (s : State) : Bool :=
  s.present .ras && s.ctx.el == .el1 && !s.disrTrapped && s.el2RoutesSError

/-- The DISR encoding reads zero and ignores writes. -/
def State.disrRazWi (s : State) : Bool :=
  s.present .ras && ((s.ctx.el == .el1 && !s.disrTrapped && !s.el2RoutesSError) || s.ctx.el == .el2) && s.el3OwnsSError

/-- The DISR encoding reaches DISR. -/
def State.disrOpen (s : State) : Bool :=
  s.present .ras && (s.ctx.el == .el3 || (s.ctx.el == .el2 && !s.el3OwnsSError)
    || (s.ctx.el == .el1 && !s.disrTrapped && !s.el2RoutesSError && !s.el3OwnsSError))

/-- UNDEFINED by the higher-priority Secure debug test: the applicable EL3 control is set and EL3SDDUndefPriority() holds
(60_exceptions.md R261(c)). -/
def State.errSddPriority (write : Bool) (s : State) : Bool :=
  s.ctx.el3SDDUndefPriority && (s.errControlEL3A64 write || s.errControlEL3A32)

/-- The results an instruction of a group can end in (60_exceptions.md R276). -/
def mayEndIn : Group → StepResult → Bool
  | .esb, r => r == .done
  | .disr, r | .vdfsr, r | .vdisr, r =>
    r == .done || r == .raised .undefined || r == .raised (.hypTrap 3) || r == .raised (.a64Trap .el2 3)
  | .err, r =>
    r == .done || r == .raised .undefined || r == .raised (.hypTrap 3) || r == .raised (.a64Trap .el2 3)
      || r == .raised (.a64Trap .el3 3) || r == .raised .monitorTrap

/-! ### Runs -/

/-- `n` steps, stopping at the first fault or refusal. -/
def runSteps : Nat → State → Res
  | 0, s => .next s
  | n + 1, s =>
    match step s with
    | .next t => runSteps n t
    | .fault r => .fault r
    | .refused r => .refused r


/-- The instruction a step of this kind runs, if it runs one. -/
def StepKind.instr : StepKind → Option Instr
  | .a32 w => (decodeA32 w).toOption
  | .t32 hw1 hw2 => (decodeT32 hw1 hw2).toOption
  | .virtualSErrorTaken => none
  | .nodeWritesRecord _ _ _ => none
  | .warmReset => none
  | .boundary => none

/-- The kinds of step that can write DISR: MCR DISR, ESB, Warm reset (47_esb_indirect.md R255(b)). -/
def StepKind.mayWriteDisr (k : StepKind) : Bool :=
  k == .warmReset || (k.instr.any (fun i => (i.group == .disr && i.isMcr) || i.group == .esb))

/-- The kinds of step that can write VDISR: MCR DISR (redirected), MCR VDISR, ESB, Warm reset. -/
def StepKind.mayWriteVdisr (k : StepKind) : Bool :=
  k == .warmReset || (k.instr.any (fun i => ((i.group == .disr || i.group == .vdisr) && i.isMcr) || i.group == .esb))

/-- The kinds of step that can write VDFSR: MCR VDFSR, Warm reset. -/
def StepKind.mayWriteVdfsr (k : StepKind) : Bool :=
  k == .warmReset || (k.instr.any (fun i => i.group == .vdfsr && i.isMcr))

/-- The kinds of step that can write SEL: MCR ERRSELR, Warm reset. -/
def StepKind.mayWriteSel (k : StepKind) : Bool :=
  k == .warmReset || (k.instr.any (fun i => i.group == .err && i.isMcr && !i.isErxWrite))

/-- The kinds of step that can write a record: MCR through an ERX window, a node, Warm reset. -/
def StepKind.mayWriteRecords : StepKind → Bool
  | .warmReset => true
  | .nodeWritesRecord _ _ _ => true
  | .a32 w => (decodeA32 w).toOption.any Instr.isErxWrite
  | .t32 hw1 hw2 => (decodeT32 hw1 hw2).toOption.any Instr.isErxWrite
  | .virtualSErrorTaken => false
  | .boundary => false

/-- The kinds of step that can write a general register: an MRC. -/
def StepKind.mayWriteGpr (k : StepKind) : Bool := k.instr.any Instr.isMrc

/-- Whether the step of an input writes DISR on the implementation of `s`: a Warm reset, an ESB whose physical deferral is
raised and admitted, an MCR DISR that reaches DISR (20_memory.md R88; 47_esb_indirect.md R251, R255(b), R256(a)). -/
def State.inputWritesDisr (s : State) (inp : StepInput) : Bool :=
  inp.kind == .warmReset || inp.kind.instr.any (fun i =>
    (i.group == .disr && i.isMcr && ({ s with ctx := inp.ctx } : State).disrOpen)
    || (i.group == .esb && s.impl.featRAS && s.impl.hasEsbSyncSError && inp.esb.physical.isSome))

/-- Whether the step of an input writes VDISR on the implementation of `s`: a Warm reset, an ESB whose virtual deferral is
raised and admitted, an MCR DISR that is redirected, an MCR VDISR that is performed (20_memory.md R89;
47_esb_indirect.md R252, R255(b), R256(b)(c)). -/
def State.inputWritesVdisr (s : State) (inp : StepInput) : Bool :=
  inp.kind == .warmReset || inp.kind.instr.any (fun i =>
    (i.group == .disr && i.isMcr && ({ s with ctx := inp.ctx } : State).disrRedirected)
    || (i.group == .vdisr && i.isMcr && ({ s with ctx := inp.ctx } : State).virtOpen)
    || (i.group == .esb && s.impl.featRAS && s.impl.haveEL2 && inp.esb.virtual
        && (inp.ctx.el == .el0 || inp.ctx.el == .el1)))

/-- The same outcome but for DISR: both go on, and only DISR may differ. -/
def sameButDisr (a b : Res) : Prop := ∃ s d, a = .next s ∧ b = .next { s with disr := d }

/-- The same outcome but for VDISR: both go on, and only VDISR may differ. -/
def sameButVdisr (a b : Res) : Prop := ∃ s d, a = .next s ∧ b = .next { s with vdisr := d }

end Sys2Proof.Machine
end

