-- ==== Sys2Proof/Certificates/Slice0/Obligations.lean ====
section
/-! DEFINITION. The statements for the provers. Each docstring names the rule a statement formalises; "log n" is
notes/assumptions/n.md. -/

open Sys2Proof Sys2Proof.Machine

/-- Every well-formed instruction is read back from its word (30_encoding.md R101, R105, R106). -/
def Obligations.DecodeEncodeAgree : Prop :=
  ∀ i : Instr, i.wf = true → decodeA32 (encode i) = .ok i

/-- Each word has one meaning, and only encodings decode (30_encoding.md R106, R107). -/
def Obligations.EncodeDecodeAgree : Prop :=
  ∀ (w : Word) (i : Instr), decodeA32 w = .ok i → i.wf = true ∧ encode i = w

/-- Sanity: words EN1 to EN6 and EN15 of 95_test_vectors.md (30_encoding.md R105, R108, R112; the refusals are decision D18). -/
def Obligations.DecodesWordsOfTheSpec : Prop :=
  decodeA32 0xEE150F13#32 = .ok (.mrcErridr 0b1110#4 .r0) ∧
  decodeA32 0x1E157F54#32 = .ok (.mrcErxstatus 0b0001#4 .r7) ∧
  decodeA32 0xEE9CEF31#32 = .ok (.mrcVdisr 0b1110#4 .r14) ∧
  decodeA32 0xEE1CEF31#32 = .ok (.mrcDisr 0b1110#4 .r14) ∧
  decodeA32 0xEE050F13#32 = .error .readOnlyRegister ∧
  decodeA32 0xEE050F14#32 = .error .readOnlyRegister ∧
  decodeA32 0xEE050F94#32 = .error .readOnlyRegister ∧
  decodeA32 0xE320F010#32 = .ok (.esb 0b1110#4)

/-- The transfer registers the model refuses (30_encoding.md R111; the refusal is decision D3). -/
def Obligations.RefusesRt13AndRt15 : Prop :=
  ∀ (i : Instr) (w : Word), i.group ≠ .esb → w.extractLsb' 28 4 ≠ 0b1111#4 →
    w &&& 0x0FFF0FFF#32 = encode i &&& 0x0FFF0FFF#32 →
    (w.extractLsb' 12 4 = 13#4 → decodeA32 w = .error .rt13) ∧
    (w.extractLsb' 12 4 = 15#4 → decodeA32 w = .error .rt15)

/-- Refused words (30_encoding.md R106, R108; the refusal is decision D18). -/
def Obligations.RefusesReadOnlyWritesAndUnconditionalWords : Prop :=
  ∀ w : Word,
    (w.extractLsb' 28 4 = 0b1111#4 → decodeA32 w = .error .condUnconditional) ∧
    (w.extractLsb' 28 4 ≠ 0b1111#4 →
      (w &&& 0x0FFF0FFF#32 = 0x0E050F13#32 ∨ w &&& 0x0FFF0FFF#32 = 0x0E050F14#32 ∨
        w &&& 0x0FFF0FFF#32 = 0x0E050F94#32) → decodeA32 w = .error .readOnlyRegister)

/-- The T32 form (30_encoding.md R103, R112). -/
def Obligations.T32DecodesTheSameWords : Prop :=
  ∀ (hw1 hw2 : BitVec 16) (i : Instr), decodeT32 hw1 hw2 = .ok i ↔
    i.cond = 0b1110#4 ∧
      ((i.group ≠ .esb ∧ encode i = hw1 ++ hw2) ∨ (i.group = .esb ∧ hw1 = 0xF3AF#16 ∧ hw2 = 0x8010#16))

/-- A step runs the decoded instruction, in the context supplied with it (00_scope.md R9; the queue is the model's, log 1). -/
def Obligations.StepRunsTheDecodedInstruction : Prop :=
  ∀ (s : State) (c : Context) (e : EsbChoice) (rest : List StepInput) (i : Instr),
    (∀ w : Word, s.inputs = { ctx := c, esb := e, kind := .a32 w } :: rest → decodeA32 w = .ok i →
      step s = exec i { s with ctx := c, esb := e, inputs := rest }) ∧
    (∀ hw1 hw2 : BitVec 16, s.inputs = { ctx := c, esb := e, kind := .t32 hw1 hw2 } :: rest → decodeT32 hw1 hw2 = .ok i →
      step s = exec i { s with ctx := c, esb := e, inputs := rest })

/-- The placed word runs in the state it was placed in, for every instruction (log 1). -/
def Obligations.StepRunsThePlacedWord : Prop :=
  ∀ (i : Instr) (s : State), i.wf = true → step (s.withFetchWord 32 (encode i).toNat) = exec i s

/-- Where a step stops: no input (the model's, log 24), or a word outside the spec (00_scope.md R10). -/
def Obligations.StepStopsWithoutAnInstruction : Prop :=
  (∀ s : State, s.inputs = [] → step s = .fault .noInput) ∧
  (∀ (s : State) (inp : StepInput) (rest : List StepInput) (w : Word) (e : DecodeError),
    s.inputs = inp :: rest → inp.kind = .a32 w → decodeA32 w = .error e → step s = .refused (.undecodable e)) ∧
  (∀ (s : State) (inp : StepInput) (rest : List StepInput) (hw1 hw2 : BitVec 16) (e : DecodeError),
    s.inputs = inp :: rest → inp.kind = .t32 hw1 hw2 → decodeT32 hw1 hw2 = .error e → step s = .refused (.undecodable e))

/-- The invariant at State.reset (values there are the model's, logs 2 and 3). -/
def Obligations.ResetHasInvariant : Prop :=
  State.reset.Inv

/-- Records stay complete and hardwired reserved bits stay zero, whatever the step (10_state.md R32; 40_access_common.md R131). -/
def Obligations.StepKeepsInvariant : Prop :=
  ∀ s t : State, s.Inv → step s = .next t → t.Inv

/-- NUM and the other parameters are constants (10_state.md R20(c), R28; 95_test_vectors.md RS1). That a step takes its
context and its ESB choice from exactly one entry of the queue is the model's way to supply them (00_scope.md R9; log 1,
DESIGN CHOICE). -/
def Obligations.StepKeepsTheImplementation : Prop :=
  ∀ s t : State, step s = .next t → t.impl = s.impl ∧ ∃ inp, s.inputs = inp :: t.inputs ∧ t.ctx = inp.ctx ∧ t.esb = inp.esb

/-- The writers of each piece of state, over all steps (10_state.md R20, R49; 47_esb_indirect.md R255(b)). -/
def Obligations.OnlyTheirWritersChangeTheRegisters : Prop :=
  ∀ (s t : State) (inp : StepInput) (rest : List StepInput), s.inputs = inp :: rest → step s = .next t →
    (inp.kind.mayWriteDisr = false → t.disr = s.disr) ∧
    (inp.kind.mayWriteVdisr = false → t.vdisr = s.vdisr) ∧
    (inp.kind.mayWriteVdfsr = false → t.vdfsr = s.vdfsr) ∧
    (inp.kind.mayWriteSel = false → t.sel = s.sel ∧ t.errselrHi = s.errselrHi) ∧
    (inp.kind.mayWriteRecords = false → t.recs = s.recs) ∧
    (inp.kind.mayWriteGpr = false → t.gpr = s.gpr)

/-- Stickiness of A (47_esb_indirect.md R255(b)): nothing clears A but a direct write and the UNKNOWN of a Warm reset. -/
def Obligations.NothingClearsABitButADirectWriteOrReset : Prop :=
  ∀ (s t : State) (inp : StepInput) (rest : List StepInput), s.inputs = inp :: rest → step s = .next t →
    inp.kind ≠ .warmReset →
    ((∀ i, inp.kind.instr = some i → ¬(i.group = .disr ∧ i.isMcr = true)) →
      s.disr.getLsbD 31 = true → t.disr.getLsbD 31 = true) ∧
    ((∀ i, inp.kind.instr = some i → ¬((i.group = .disr ∨ i.group = .vdisr) ∧ i.isMcr = true)) →
      s.vdisr.getLsbD 31 = true → t.vdisr.getLsbD 31 = true)

/-- The listings are total (40_access_common.md R136). Not a completion statement: a next state may report an exceptional outcome. -/
def Obligations.EveryInstructionAnswersANextState : Prop :=
  ∀ (i : Instr) (s : State), ∃ t, exec i s = .next t

/-- The outcomes of each group, no more and no fewer (60_exceptions.md R276, R278). -/
def Obligations.OutcomesOfEachGroup : Prop :=
  ∀ (i : Instr) (r : StepResult), mayEndIn i.group r = true ↔ ∃ s t, exec i s = .next t ∧ t.result = r

/-- An exceptional outcome leaves the registers and R[t] untouched (40_access_common.md R120; 60_exceptions.md R266). -/
def Obligations.ExceptionalOutcomesChangeNothing : Prop :=
  ∀ (i : Instr) (s t : State) (e : Exc), exec i s = .next t → t.result = .raised e →
    t = { s with result := .raised e }

/-- The presence check is first (40_access_common.md R121). -/
def Obligations.AbsentRegisterIsUndefined : Prop :=
  ∀ (i : Instr) (s : State), i.group ≠ .esb → (hasFeature s.impl i.feature = false ∨ s.impl.featAA32EL1 = false) →
    exec i s = .next { s with result := .raised .undefined }

/-- EL0 reaches nothing (60_exceptions.md R261(b)). -/
def Obligations.El0AccessIsUndefined : Prop :=
  ∀ (i : Instr) (s : State), i.group ≠ .esb → s.ctx.el = .el0 →
    exec i s = .next { s with result := .raised .undefined }

/-- Traps to EL2 (60_exceptions.md R262) have priority over traps to EL3 and over what SEL selects (40_access_common.md R134). -/
def Obligations.ErrAccessTrapsToEL2 : Prop :=
  ∀ (i : Instr) (s : State), i.group = .err → s.present i.feature = true → s.ctx.el = .el1 →
    s.errSddPriority i.isMcr = false →
    (s.errTrapsToEL2A64 = true → exec i s = .next { s with result := .raised (.a64Trap .el2 3) }) ∧
    (s.errTrapsToEL2A32 = true → exec i s = .next { s with result := .raised (.hypTrap 3) })

/-- UNDEFINED by Secure debug at the higher priority (60_exceptions.md R261(c), R274). -/
def Obligations.ErrAccessSddPriorityUndefined : Prop :=
  ∀ (i : Instr) (s : State), i.group = .err → (s.ctx.el = .el1 ∨ s.ctx.el = .el2) → s.errSddPriority i.isMcr = true →
    exec i s = .next { s with result := .raised .undefined }

/-- Traps to EL3 (60_exceptions.md R263) and their replacement in Debug state (R274). -/
def Obligations.ErrAccessTrapsToEL3 : Prop :=
  ∀ (i : Instr) (s : State), i.group = .err → s.present i.feature = true →
    (s.ctx.el3SDDUndefPriority = false →
      (s.ctx.el = .el2 ∨ (s.ctx.el = .el1 ∧ s.errTrapsToEL2A64 = false ∧ s.errTrapsToEL2A32 = false)) →
      (s.errControlEL3A64 i.isMcr = true →
        exec i s = .next { s with result := .raised (if s.ctx.el3SDDUndef then .undefined else .a64Trap .el3 3) }) ∧
      (s.errControlEL3A32 = true → (s.ctx.el = .el2 ∨ s.ctx.isMonitor = false) →
        exec i s = .next { s with result := .raised (if s.ctx.el3SDDUndef then .undefined else .monitorTrap) })) ∧
    (s.ctx.el = .el3 → s.ctx.isMonitor = false → s.ctx.scrTERR = true →
      exec i s = .next { s with result := .raised .monitorTrap })

/-- The listings of R122 and R123 against the tables of causes (60_exceptions.md R261 to R263). -/
def Obligations.ErrAccessPerformedExactlyWhenOpen : Prop :=
  ∀ (f : Feature) (s : State),
    (errReadCheck f s = none ↔ s.errOpen false f = true) ∧ (errWriteCheck f s = none ↔ s.errOpen true f = true)

/-- How the two ERR templates relate (40_access_common.md R123). -/
def Obligations.WriteCheckIsReadCheckWithTwerr : Prop :=
  ∀ (f : Feature) (s : State),
    errWriteCheck f s =
      errReadCheck f { s with ctx := { s.ctx with scrEL3TERR := s.ctx.scrEL3TERR || s.ctx.scrEL3TWERR } }

/-- ERRIDR (42_errid_errsel.md R160; 10_state.md R28), with its frame. -/
def Obligations.MrcErridrReadsNum : Prop :=
  ∀ (c : Cond) (t : Reg) (s : State), s.errOpen false .ras = true →
    exec (.mrcErridr c t) s = .next { s with gpr := s.gpr.write t (0#16 ++ s.impl.num), result := .done }

/-- ERRSELR read (42_errid_errsel.md R161; 10_state.md R30), with its frame; the UNKNOWN is a free value (log 9). -/
def Obligations.MrcErrselrReadsSel : Prop :=
  ∀ (c : Cond) (t : Reg) (s : State), s.errOpen false .ras = true →
    (s.impl.num ≠ 0 ∨ s.impl.errselrWhenNoRecords = .res0) →
    (s.sel < s.impl.num → exec (.mrcErrselr c t) s =
      .next { s with gpr := s.gpr.write t ((if s.impl.res0Storage = .hardwired0 then 0#16 else s.errselrHi) ++ s.sel),
                     result := .done }) ∧
    (s.impl.num ≤ s.sel → exec (.mrcErrselr c t) s =
      .next { s with gpr := s.gpr.write t ((if s.impl.res0Storage = .hardwired0 then 0#16 else s.errselrHi)
                              ++ Config.unknown16 s.draws),
                     draws := s.draws + 1, result := .done })

/-- ERRSELR write (42_errid_errsel.md R162), with its frame; without records and under hardwired0 every bit is reserved and
zero is stored (40_access_common.md R131; log 13). -/
def Obligations.McrErrselrWritesSel : Prop :=
  ∀ (c : Cond) (t : Reg) (s : State), s.errOpen true .ras = true →
    (s.impl.num ≠ 0 ∨ s.impl.errselrWhenNoRecords = .res0) →
    exec (.mcrErrselr c t) s =
      .next { s with sel := if s.impl.num = 0 ∧ s.impl.res0Storage = .hardwired0 then 0#16
                       else (s.gpr.read t).extractLsb' 0 16,
                     errselrHi := if s.impl.res0Storage = .hardwired0 then s.errselrHi else (s.gpr.read t).extractLsb' 16 16,
                     result := .done }

/-- No records (10_state.md R31); where the test stands is decision D12 (log 14). -/
def Obligations.ErrselrUndefinedWithoutRecords : Prop :=
  ∀ (c : Cond) (t : Reg) (s : State), s.impl.num = 0 → s.impl.errselrWhenNoRecords = .undefined →
    (s.errOpen false .ras = true → exec (.mrcErrselr c t) s = .next { s with result := .raised .undefined }) ∧
    (s.errOpen true .ras = true → exec (.mcrErrselr c t) s = .next { s with result := .raised .undefined })

/-- The window map for reads (10_state.md R33; 42_errid_errsel.md R163), with its frame. -/
def Obligations.WindowReadsReachTheSelectedHalf : Prop :=
  ∀ w ∈ windowReads, ∀ (c : Cond) (t : Reg) (s : State), s.errOpen false w.feature = true → s.sel < s.impl.num →
    (w.reg = .ctlr → firstOfNode s.impl s.sel.toNat = true) →
    exec (w.access c t) s =
      .next { s with gpr := s.gpr.write t (halfOf ((s.record s.sel.toNat).get w.reg) w.half), result := .done }

/-- The window map for writes (10_state.md R33, R36), with its frame; the value is free (log 10). -/
def Obligations.WindowWritesChangeTheSelectedHalf : Prop :=
  ∀ w ∈ windowWrites, ∀ (c : Cond) (t : Reg) (s : State), s.errOpen true w.feature = true → s.sel < s.impl.num →
    (w.reg = .ctlr → firstOfNode s.impl s.sel.toNat = true) →
    exec (w.access c t) s =
      .next { s with
        recs := s.recs.set s.sel.toNat ((s.record s.sel.toNat).set w.reg
          (withHalf ((s.record s.sel.toNat).get w.reg) w.half
            (Config.errWriteEffect w.reg w.half (halfOf ((s.record s.sel.toNat).get w.reg) w.half) (s.gpr.read t) s.draws))),
        draws := s.draws + 1, result := .done }

/-- Frame of a window write over all paths (10_state.md R36, D8). -/
def Obligations.WindowWriteFrame : Prop :=
  ∀ w ∈ windowWrites, ∀ (c : Cond) (t : Reg) (s u : State), exec (w.access c t) s = .next u →
    u = { s with recs := u.recs, draws := u.draws, result := u.result } ∧
    (∀ (n : Nat) (k : RecReg) (h : Half),
      (n ≠ (if s.sel < s.impl.num then s.sel.toNat else s.nextUnknownRecord) ∨ k ≠ w.reg ∨ h ≠ w.half) →
      halfOf (u.recReg n k) h = halfOf (s.recReg n k) h) ∧
    (s.impl.num ≤ s.sel → (s.impl.erxOor ≠ .unknownRecord ∨ s.impl.num = 0) → u.recs = s.recs)

/-- The four options for reads (10_state.md R35); the draws are free values (log 9). -/
def Obligations.WindowReadsOutOfRange : Prop :=
  ∀ w ∈ windowReads, ∀ (c : Cond) (t : Reg) (s : State), s.errOpen false w.feature = true → s.impl.num ≤ s.sel →
    (s.impl.erxOor = .razWi → exec (w.access c t) s = .next { s with gpr := s.gpr.write t 0, result := .done }) ∧
    (s.impl.erxOor = .nop → exec (w.access c t) s = .next { s with result := .done }) ∧
    (s.impl.erxOor = .undef → exec (w.access c t) s = .next { s with result := .raised .undefined }) ∧
    (s.impl.erxOor = .unknownRecord → s.impl.num = 0 → exec (w.access c t) s =
      .next { s with gpr := s.gpr.write t (Config.unknown32 s.draws), draws := s.draws + 1, result := .done }) ∧
    (s.impl.erxOor = .unknownRecord → s.impl.num ≠ 0 → ∃ m, m < s.impl.num.toNat ∧ exec (w.access c t) s =
      .next { s with gpr := s.gpr.write t (s.readHalf m w.reg w.half), draws := s.draws + 1, result := .done })

/-- The four options for writes (10_state.md R35); the draw is a free value (log 9). -/
def Obligations.WindowWritesOutOfRange : Prop :=
  ∀ w ∈ windowWrites, ∀ (c : Cond) (t : Reg) (s : State), s.errOpen true w.feature = true → s.impl.num ≤ s.sel →
    ((s.impl.erxOor = .razWi ∨ s.impl.erxOor = .nop) → exec (w.access c t) s = .next { s with result := .done }) ∧
    (s.impl.erxOor = .undef → exec (w.access c t) s = .next { s with result := .raised .undefined }) ∧
    (s.impl.erxOor = .unknownRecord → s.impl.num = 0 → exec (w.access c t) s = .next { s with result := .done }) ∧
    (s.impl.erxOor = .unknownRecord → s.impl.num ≠ 0 → ∃ m, m < s.impl.num.toNat ∧ exec (w.access c t) s =
      .next { (({ s with draws := s.draws + 1 } : State).writeHalf m w.reg w.half (s.gpr.read t)) with result := .done })

/-- The control windows of a later record (10_state.md R34). -/
def Obligations.CtlrWindowsOfALaterRecordAreReserved : Prop :=
  ∀ (c : Cond) (t : Reg) (s : State), s.sel < s.impl.num → firstOfNode s.impl s.sel.toNat = false →
    (s.errOpen false .ras = true → ∀ ih ∈ [(Instr.mrcErxctlr c t, Half.lo), (Instr.mrcErxctlr2 c t, Half.hi)],
      exec ih.1 s = .next { s with
        gpr := s.gpr.write t (if s.impl.res0Storage = .hardwired0 then 0 else halfOf (s.record s.sel.toNat).ctlr ih.2),
        result := .done }) ∧
    (s.errOpen true .ras = true → ∀ ih ∈ [(Instr.mcrErxctlr c t, Half.lo), (Instr.mcrErxctlr2 c t, Half.hi)],
      exec ih.1 s = .next { s with
        recs := if s.impl.res0Storage = .hardwired0 then s.recs
          else s.recs.set s.sel.toNat { (s.record s.sel.toNat) with
            ctlr := withHalf (s.record s.sel.toNat).ctlr ih.2 (s.gpr.read t) },
        result := .done })

/-- What cannot be written from AArch32 (10_state.md R37). -/
def Obligations.FeatureRegistersAndUpperStatusAreNotWritable : Prop :=
  ∀ (i : Instr) (s t : State) (n : Nat), exec i s = .next t →
    (t.record n).fr = (s.record n).fr ∧ halfOf (t.record n).status .hi = halfOf (s.record n).status .hi

/-- Reading and writing halves (20_memory.md R82; 10_state.md R36). -/
def Obligations.HalvesOfARecordRegister : Prop :=
  ∀ (d : DWord) (v : Word), halfOf d .lo = d.setWidth 32 ∧ halfOf d .hi = (d >>> 32).setWidth 32 ∧
    ∀ h h', halfOf (withHalf d h v) h' = if h' = h then v else halfOf d h'

/-- The register file (10_state.md R46). -/
def Obligations.RegisterFileReadAfterWrite : Prop :=
  ∀ (g : Gpr) (t u : Reg) (v : Word), (g.write t v).read u = if u = t then v else g.read u

/-- Reads have no side effect (20_memory.md R85). -/
def Obligations.MrcFrame : Prop :=
  ∀ (i : Instr) (s u : State), i.isMrc = true → exec i s = .next u →
    u = { s with gpr := u.gpr, draws := u.draws, result := u.result } ∧
    ∀ t, i.rt ≠ some t → u.gpr.read t = s.gpr.read t

/-- Side effects of direct writes (20_memory.md R85): a frame on the fields of the state and, for a window write, on the
records; the half-register of the one record is WindowWriteFrame. -/
def Obligations.McrFrame : Prop :=
  ∀ (i : Instr) (s u : State), i.isMcr = true → exec i s = .next u →
    (i.group = .disr → u = { s with disr := u.disr, result := u.result } ∨
      u = { s with vdisr := u.vdisr, result := u.result }) ∧
    (i.group = .vdfsr → u = { s with vdfsr := u.vdfsr, result := u.result }) ∧
    (i.group = .vdisr → u = { s with vdisr := u.vdisr, result := u.result }) ∧
    (i.group = .err → i.isErxWrite = false →
      u = { s with sel := u.sel, errselrHi := u.errselrHi, result := u.result }) ∧
    (i.isErxWrite = true → u = { s with recs := u.recs, draws := u.draws, result := u.result } ∧
      ∀ n, n ≠ (if s.sel < s.impl.num then s.sel.toNat else s.nextUnknownRecord) → u.record n = s.record n)

/-- DISR accesses that reach DISR (41_disr.md R150, R151), with their frame. -/
def Obligations.DisrEncodingReachesDisr : Prop :=
  ∀ (c : Cond) (t : Reg) (s : State), s.disrOpen = true →
    exec (.mrcDisr c t) s = .next { s with gpr := s.gpr.write t s.disr, result := .done } ∧
    exec (.mcrDisr c t) s = .next { s with
      disr := if s.impl.res0Storage = .readback then s.gpr.read t
        else s.gpr.read t &&& (if s.impl.hasEsbSyncSError then 0x8000DE3F#32 else 0x0000DE3F#32),
      result := .done }

/-- The redirection (41_disr.md R150 arms D1.3, D1.4), with its frame. -/
def Obligations.DisrEncodingRedirectedToVdisr : Prop :=
  ∀ (c : Cond) (t : Reg) (s : State), s.disrRedirected = true →
    exec (.mrcDisr c t) s = .next { s with gpr := s.gpr.write t s.vdisr, result := .done } ∧
    exec (.mcrDisr c t) s = .next { s with
      vdisr := if s.impl.res0Storage = .readback then s.gpr.read t
        else s.gpr.read t &&& (if s.impl.haveEL2 then 0x8000D63F#32 else 0#32),
      result := .done }

/-- The zero read (41_disr.md R150 arms D1.5, D1.6, D2.1, D2.2). -/
def Obligations.DisrEncodingReadsZeroUnderEA : Prop :=
  ∀ (c : Cond) (t : Reg) (s : State), s.disrRazWi = true →
    exec (.mrcDisr c t) s = .next { s with gpr := s.gpr.write t 0, result := .done } ∧
    exec (.mcrDisr c t) s = .next { s with result := .done }

/-- The HSTR traps of DISR (41_disr.md R150 arms D1.1, D1.2). -/
def Obligations.DisrEncodingTrappedByT12 : Prop :=
  ∀ (i : Instr) (s : State), i.group = .disr → s.present .ras = true → s.ctx.el = .el1 →
    (s.el2A64 = true → s.ctx.hstrEL2T12 = true → exec i s = .next { s with result := .raised (.a64Trap .el2 3) }) ∧
    (s.el2A32 = true → s.ctx.hstrT12 = true → exec i s = .next { s with result := .raised (.hypTrap 3) })

/-- DISR is hidden below the level that owns SErrors (40_access_common.md R132; 60_exceptions.md R268). -/
def Obligations.HiddenDisrIsNotLearned : Prop :=
  ∀ (i : Instr) (s : State) (d : Word), s.disrOpen = false → sameButDisr (exec i s) (exec i { s with disr := d })

/-- VDISR is hidden from EL0, from an unrouted EL1 and from EL3 with SCR.NS == 0 (40_access_common.md R125, R132). -/
def Obligations.HiddenVdisrIsNotLearned : Prop :=
  ∀ (i : Instr) (s : State) (d : Word), s.virtOpen = false → s.disrRedirected = false →
    sameButVdisr (exec i s) (exec i { s with vdisr := d })

/-- VDFSR (46_vdfsr_vdisr.md R230, R231), with its frame. -/
def Obligations.VdfsrReadsAndWrites : Prop :=
  ∀ (c : Cond) (t : Reg) (s : State), s.virtOpen = true →
    exec (.mrcVdfsr c t) s = .next { s with gpr := s.gpr.write t s.vdfsr, result := .done } ∧
    exec (.mcrVdfsr c t) s = .next { s with
      vdfsr := if s.impl.res0Storage = .readback then s.gpr.read t
        else s.gpr.read t &&& (if s.impl.haveEL2 then 0x0000D000#32 else 0#32),
      result := .done }

/-- VDISR by its own encoding (46_vdfsr_vdisr.md R232, R233), with its frame. -/
def Obligations.VdisrReadsAndWrites : Prop :=
  ∀ (c : Cond) (t : Reg) (s : State), s.virtOpen = true →
    exec (.mrcVdisr c t) s = .next { s with gpr := s.gpr.write t s.vdisr, result := .done } ∧
    exec (.mcrVdisr c t) s = .next { s with
      vdisr := if s.impl.res0Storage = .readback then s.gpr.read t
        else s.gpr.read t &&& (if s.impl.haveEL2 then 0x8000D63F#32 else 0#32),
      result := .done }

/-- The VIRT template (40_access_common.md R125): never performed at EL1. -/
def Obligations.VirtRegistersAreClosedToEL1 : Prop :=
  ∀ (i : Instr) (s : State) (hstrEL2 hstr : Bool), s.present .ras = true →
    ((i.group = .vdfsr ∧ hstrEL2 = s.ctx.hstrEL2T5 ∧ hstr = s.ctx.hstrT5) ∨
      (i.group = .vdisr ∧ hstrEL2 = s.ctx.hstrEL2T12 ∧ hstr = s.ctx.hstrT12)) →
    (s.ctx.el = .el1 → exec i s = .next { s with
      result := .raised (if s.el2A64 = true ∧ hstrEL2 = true then .a64Trap .el2 3
        else if s.el2A32 = true ∧ hstr = true then .hypTrap 3 else .undefined) }) ∧
    (s.ctx.el = .el3 → s.ctx.scrNS = false → exec i s = .next { s with result := .raised .undefined })

/-- ESB (47_esb_indirect.md R250, R256), with its frame; the NOP without FEAT_RAS is log 17. -/
def Obligations.EsbRecordsTheDeferralsRaised : Prop :=
  ∀ (c : Cond) (s : State),
    (s.impl.featRAS = true → exec (.esb c) s = .next { s with
      disr := match s.esb.physical with
        | some syn => if s.impl.hasEsbSyncSError then s.physicalSyndrome syn else s.disr
        | none => s.disr,
      vdisr := if s.esb.virtual = true ∧ s.impl.haveEL2 = true ∧ (s.ctx.el = .el0 ∨ s.ctx.el = .el1)
        then s.virtualSyndrome else s.vdisr,
      result := .done }) ∧
    (s.impl.featRAS = false → exec (.esb c) s = .next { s with result := .done })

/-- The three layouts (47_esb_indirect.md R251); the EL3 case is decision D10 (log 18). -/
def Obligations.PhysicalSyndromeLayouts : Prop :=
  ∀ (s : State) (syn : Syndrome),
    (s.ctx.el = .el2 → s.physicalSyndrome syn =
      (1#32 <<< 31) ||| (syn.aet.setWidth 32 <<< 10) ||| (syn.ea.setWidth 32 <<< 9) ||| syn.dfsc.setWidth 32) ∧
    (s.ctx.el ≠ .el2 → s.ctx.ttbcrEAE = false → s.physicalSyndrome syn =
      (1#32 <<< 31) ||| (syn.aet.setWidth 32 <<< 14) ||| (syn.ext.setWidth 32 <<< 12)
        ||| ((syn.fs >>> 4).setWidth 32 <<< 10) ||| (syn.fs &&& 0b01111#5).setWidth 32) ∧
    (s.ctx.el ≠ .el2 → s.ctx.ttbcrEAE = true → s.physicalSyndrome syn =
      (1#32 <<< 31) ||| (syn.aet.setWidth 32 <<< 14) ||| (syn.ext.setWidth 32 <<< 12)
        ||| (1#32 <<< 9) ||| syn.status.setWidth 32)

/-- EsbDefersVirtual (47_esb_indirect.md R252); that the whole register is replaced is decision D9 (log 19), when an ESB may
raise it is R256, and that it needs FEAT_RAS is R112 (log 17). -/
def Obligations.VirtualDeferralWritesVdisr : Prop :=
  ∀ s : State,
    (s.esbDefersVirtual = { s with
      vdisr := (if s.ctx.ttbcrEAE = true then 0x80000211#32 else 0x80000406#32)
        ||| ((s.vdfsr.extractLsb' 14 2).setWidth 32 <<< 14) ||| ((s.vdfsr.extractLsb' 12 1).setWidth 32 <<< 12) }) ∧
    (∀ c : Cond, s.impl.featRAS = true → s.esb = { physical := none, virtual := true } → s.impl.haveEL2 = true →
      (s.ctx.el = .el0 ∨ s.ctx.el = .el1) → exec (.esb c) s = .next { (s.esbDefersVirtual) with result := .done })

/-- The ordering guarantee for DISR (20_memory.md R88): "unless a later write intervened", in A32 or T32. -/
def Obligations.EsbWriteOfDisrIsObservedLater : Prop :=
  ∀ (s u : State) (c0 c1 : Context) (e0 e1 : EsbChoice) (k0 k1 : StepKind) (mid rest : List StepInput) (cn cn' : Cond)
    (t : Reg) (syn : Syndrome),
    s.inputs = { ctx := c0, esb := e0, kind := k0 } :: (mid ++ { ctx := c1, esb := e1, kind := k1 } :: rest) →
    k0.instr = some (.esb cn) → k1.instr = some (.mrcDisr cn' t) →
    s.impl.featRAS = true → s.impl.hasEsbSyncSError = true → e0.physical = some syn →
    (∀ inp ∈ mid, s.inputWritesDisr inp = false) → ({ s with ctx := c1 } : State).disrOpen = true →
    runSteps (mid.length + 1) s = .next u →
    ∃ v, step u = .next v ∧ v.gpr.read t = ({ s with ctx := c0 } : State).physicalSyndrome syn

/-- The ordering guarantee for VDISR (20_memory.md R89), in A32 or T32; the read by VDISR's own encoding is the spec's
extension of the sentence (90_conflicts.md C5), and when the ESB writes VDISR is 47_esb_indirect.md R256. -/
def Obligations.EsbWriteOfVdisrIsObservedLater : Prop :=
  ∀ (s u : State) (c0 c1 : Context) (e0 e1 : EsbChoice) (k0 k1 : StepKind) (mid rest : List StepInput) (cn cn' : Cond)
    (t : Reg),
    s.inputs = { ctx := c0, esb := e0, kind := k0 } :: (mid ++ { ctx := c1, esb := e1, kind := k1 } :: rest) →
    k0.instr = some (.esb cn) →
    ((k1.instr = some (.mrcDisr cn' t) ∧ ({ s with ctx := c1 } : State).disrRedirected = true) ∨
      (k1.instr = some (.mrcVdisr cn' t) ∧ ({ s with ctx := c1 } : State).virtOpen = true)) →
    s.impl.featRAS = true → s.impl.haveEL2 = true → (c0.el = .el0 ∨ c0.el = .el1) → e0.virtual = true →
    (∀ inp ∈ mid, s.inputWritesVdisr inp = false) →
    runSteps (mid.length + 1) s = .next u →
    ∃ v, step u = .next v ∧ v.gpr.read t = ({ s with ctx := c0 } : State).virtualSyndrome

/-- VirtualSErrorTaken (47_esb_indirect.md R253); when it may be raised is R256(b) and (d), and the refusal otherwise is the
model's (log 27). -/
def Obligations.VirtualSErrorTakenReportsVdfsr : Prop :=
  ∀ (s : State) (c : Context) (e : EsbChoice) (rest : List StepInput),
    s.inputs = { ctx := c, esb := e, kind := .virtualSErrorTaken } :: rest →
    step s = if s.impl.haveEL2 = true ∧ (c.el = .el0 ∨ c.el = .el1)
      then .next { s with
        ctx := c, esb := e, inputs := rest,
        result := .virtualSErrorReported (s.vdfsr.extractLsb' 14 2) (s.vdfsr.extractLsb' 12 1) }
      else .refused .eventNotAdmissible

/-- WarmReset (70_reset_and_hazards.md R301, reserved_reset included); the draws are free values (log 9), each of a number
of its own, Rec[n] is drawn as decision D17 says (log 22), and the masks without EL2 are empty (log 12). -/
def Obligations.WarmResetDrawsTheNamedFields : Prop :=
  ∀ (s : State) (c : Context) (e : EsbChoice) (rest : List StepInput),
    s.inputs = { ctx := c, esb := e, kind := .warmReset } :: rest →
    ∃ t, step s = .next t ∧ t.result = .done ∧ t.gpr = s.gpr ∧ t.impl = s.impl ∧ t.ctx = c ∧ t.esb = e ∧ t.inputs = rest ∧
      t.draws = s.draws + 8 + 8 * s.impl.num.toNat ∧
      t.disr &&& disrFieldMask s.impl = Config.unknown32 s.draws &&& disrFieldMask s.impl ∧
      t.vdfsr &&& vdfsrFieldMask s.impl = Config.unknown32 (s.draws + 2) &&& vdfsrFieldMask s.impl ∧
      t.vdisr &&& vdisrFieldMask s.impl = Config.unknown32 (s.draws + 4) &&& vdisrFieldMask s.impl ∧
      t.sel = Config.unknown16 (s.draws + 6) ∧
      t.reservedZero ∧
      (s.impl.res0Storage = .readback →
        t.disr &&& ~~~disrFieldMask s.impl = Config.unknown32 (s.draws + 1) &&& ~~~disrFieldMask s.impl ∧
        t.vdfsr &&& ~~~vdfsrFieldMask s.impl = Config.unknown32 (s.draws + 3) &&& ~~~vdfsrFieldMask s.impl ∧
        t.vdisr &&& ~~~vdisrFieldMask s.impl = Config.unknown32 (s.draws + 5) &&& ~~~vdisrFieldMask s.impl ∧
        t.errselrHi = Config.unknown16 (s.draws + 7)) ∧
      t.recordsComplete ∧
      ∀ n, n < s.impl.num.toNat → t.record n =
        { fr := Config.unknown64 (s.draws + 8 + 8 * n), ctlr := Config.unknown64 (s.draws + 8 + 8 * n + 1),
          status := Config.unknown64 (s.draws + 8 + 8 * n + 2), addr := Config.unknown64 (s.draws + 8 + 8 * n + 3),
          misc0 := Config.unknown64 (s.draws + 8 + 8 * n + 4), misc1 := Config.unknown64 (s.draws + 8 + 8 * n + 5),
          misc2 := Config.unknown64 (s.draws + 8 + 8 * n + 6), misc3 := Config.unknown64 (s.draws + 8 + 8 * n + 7) }

/-- The environment writer (10_state.md R49(b), D16; log 21). -/
def Obligations.NodeWritesOneRecordRegister : Prop :=
  ∀ (s : State) (c : Context) (e : EsbChoice) (rest : List StepInput) (n : Nat) (k : RecReg) (v : DWord),
    s.inputs = { ctx := c, esb := e, kind := .nodeWritesRecord n k v } :: rest → s.recordsComplete →
    (n < s.impl.num.toNat → ∃ t, step s = .next t ∧
      t = { s with ctx := c, esb := e, inputs := rest, recs := t.recs, result := .done } ∧
      ∀ m k', t.recReg m k' = if m = n ∧ k' = k then v else s.recReg m k') ∧
    (s.impl.num.toNat ≤ n → step s = .refused .eventNotAdmissible)

/-- Boundaries outside the model (95_test_vectors.md Part 3; log 29). -/
def Obligations.BoundaryHasNoEffect : Prop :=
  ∀ (s : State) (c : Context) (e : EsbChoice) (rest : List StepInput),
    s.inputs = { ctx := c, esb := e, kind := .boundary } :: rest →
    step s = .next { s with ctx := c, esb := e, inputs := rest, result := .done }

/-- The listing of 40_access_common.md R125, arm by arm, for the four accesses by the encodings of VDFSR and VDISR; the
code is 0x03. -/
def Obligations.VirtAccessesFollowTheListing : Prop :=
  ∀ (i : Instr) (s : State) (hstrEL2 hstr : Bool),
    ((i.group = .vdfsr ∧ hstrEL2 = s.ctx.hstrEL2T5 ∧ hstr = s.ctx.hstrT5) ∨
      (i.group = .vdisr ∧ hstrEL2 = s.ctx.hstrEL2T12 ∧ hstr = s.ctx.hstrT12)) →
    (¬(s.impl.featRAS = true ∧ s.impl.featAA32EL1 = true) → exec i s = .next { s with result := .raised .undefined }) ∧
    (s.impl.featRAS = true → s.impl.featAA32EL1 = true →
      (s.ctx.el = .el0 → exec i s = .next { s with result := .raised .undefined }) ∧
      (s.ctx.el = .el1 →
        exec i s = .next { s with
          result := .raised (if s.ctx.el2Enabled = true ∧ s.impl.featAA64EL2 = true ∧ s.ctx.el2UsingAArch32 = false ∧ hstrEL2 = true
            then .a64Trap .el2 0x03
            else if s.ctx.el2Enabled = true ∧ s.impl.featAA32EL2 = true ∧ s.ctx.el2UsingAArch32 = true ∧ hstr = true
              then .hypTrap 0x03
              else .undefined) }) ∧
      (s.ctx.el = .el2 → ∃ t, exec i s = .next t ∧ t.result = .done) ∧
      (s.ctx.el = .el3 → s.ctx.scrNS = false → exec i s = .next { s with result := .raised .undefined }) ∧
      (s.ctx.el = .el3 → s.ctx.scrNS = true → ∃ t, exec i s = .next t ∧ t.result = .done))
end

