-- ==== Sys2Proof/Laws/State.lean ====
section
/-! SUPPORT. What each named update of the state does to each field: one lemma per field per update, true by rfl. -/

namespace Sys2Proof.Machine

open Sys2Proof

/-! ### `State.writeGpr`: one general register is written (10_state.md R46) -/

section
variable (s : State) (t : Reg) (v : Word)

@[simp] theorem State.writeGpr_gpr : (s.writeGpr t v).gpr = s.gpr.write t v := rfl
@[simp] theorem State.writeGpr_disr : (s.writeGpr t v).disr = s.disr := rfl
@[simp] theorem State.writeGpr_vdisr : (s.writeGpr t v).vdisr = s.vdisr := rfl
@[simp] theorem State.writeGpr_vdfsr : (s.writeGpr t v).vdfsr = s.vdfsr := rfl
@[simp] theorem State.writeGpr_sel : (s.writeGpr t v).sel = s.sel := rfl
@[simp] theorem State.writeGpr_errselrHi : (s.writeGpr t v).errselrHi = s.errselrHi := rfl
@[simp] theorem State.writeGpr_recs : (s.writeGpr t v).recs = s.recs := rfl
@[simp] theorem State.writeGpr_impl : (s.writeGpr t v).impl = s.impl := rfl
@[simp] theorem State.writeGpr_ctx : (s.writeGpr t v).ctx = s.ctx := rfl
@[simp] theorem State.writeGpr_esb : (s.writeGpr t v).esb = s.esb := rfl
@[simp] theorem State.writeGpr_result : (s.writeGpr t v).result = s.result := rfl
@[simp] theorem State.writeGpr_inputs : (s.writeGpr t v).inputs = s.inputs := rfl
@[simp] theorem State.writeGpr_draws : (s.writeGpr t v).draws = s.draws := rfl

end

/-! ### `State.drawn`: a free value is drawn (00_scope.md R6) -/

section
variable (s : State)

@[simp] theorem State.drawn_gpr : s.drawn.gpr = s.gpr := rfl
@[simp] theorem State.drawn_disr : s.drawn.disr = s.disr := rfl
@[simp] theorem State.drawn_vdisr : s.drawn.vdisr = s.vdisr := rfl
@[simp] theorem State.drawn_vdfsr : s.drawn.vdfsr = s.vdfsr := rfl
@[simp] theorem State.drawn_sel : s.drawn.sel = s.sel := rfl
@[simp] theorem State.drawn_errselrHi : s.drawn.errselrHi = s.errselrHi := rfl
@[simp] theorem State.drawn_recs : s.drawn.recs = s.recs := rfl
@[simp] theorem State.drawn_impl : s.drawn.impl = s.impl := rfl
@[simp] theorem State.drawn_ctx : s.drawn.ctx = s.ctx := rfl
@[simp] theorem State.drawn_esb : s.drawn.esb = s.esb := rfl
@[simp] theorem State.drawn_result : s.drawn.result = s.result := rfl
@[simp] theorem State.drawn_inputs : s.drawn.inputs = s.inputs := rfl
@[simp] theorem State.drawn_draws : s.drawn.draws = s.draws + 1 := rfl

end

/-! ### `State.writeDisr`: DISR is written (41_disr.md R151) -/

section
variable (s : State) (v : Word)

@[simp] theorem State.writeDisr_gpr : (s.writeDisr v).gpr = s.gpr := rfl
@[simp] theorem State.writeDisr_disr : (s.writeDisr v).disr = storedValue s.impl (disrFieldMask s.impl) v := rfl
@[simp] theorem State.writeDisr_vdisr : (s.writeDisr v).vdisr = s.vdisr := rfl
@[simp] theorem State.writeDisr_vdfsr : (s.writeDisr v).vdfsr = s.vdfsr := rfl
@[simp] theorem State.writeDisr_sel : (s.writeDisr v).sel = s.sel := rfl
@[simp] theorem State.writeDisr_errselrHi : (s.writeDisr v).errselrHi = s.errselrHi := rfl
@[simp] theorem State.writeDisr_recs : (s.writeDisr v).recs = s.recs := rfl
@[simp] theorem State.writeDisr_impl : (s.writeDisr v).impl = s.impl := rfl
@[simp] theorem State.writeDisr_ctx : (s.writeDisr v).ctx = s.ctx := rfl
@[simp] theorem State.writeDisr_esb : (s.writeDisr v).esb = s.esb := rfl
@[simp] theorem State.writeDisr_result : (s.writeDisr v).result = s.result := rfl
@[simp] theorem State.writeDisr_inputs : (s.writeDisr v).inputs = s.inputs := rfl
@[simp] theorem State.writeDisr_draws : (s.writeDisr v).draws = s.draws := rfl

end

/-! ### `State.writeVdisr`: VDISR is written (46_vdfsr_vdisr.md R233) -/

section
variable (s : State) (v : Word)

@[simp] theorem State.writeVdisr_gpr : (s.writeVdisr v).gpr = s.gpr := rfl
@[simp] theorem State.writeVdisr_disr : (s.writeVdisr v).disr = s.disr := rfl
@[simp] theorem State.writeVdisr_vdisr : (s.writeVdisr v).vdisr = storedValue s.impl (vdisrFieldMask s.impl) v := rfl
@[simp] theorem State.writeVdisr_vdfsr : (s.writeVdisr v).vdfsr = s.vdfsr := rfl
@[simp] theorem State.writeVdisr_sel : (s.writeVdisr v).sel = s.sel := rfl
@[simp] theorem State.writeVdisr_errselrHi : (s.writeVdisr v).errselrHi = s.errselrHi := rfl
@[simp] theorem State.writeVdisr_recs : (s.writeVdisr v).recs = s.recs := rfl
@[simp] theorem State.writeVdisr_impl : (s.writeVdisr v).impl = s.impl := rfl
@[simp] theorem State.writeVdisr_ctx : (s.writeVdisr v).ctx = s.ctx := rfl
@[simp] theorem State.writeVdisr_esb : (s.writeVdisr v).esb = s.esb := rfl
@[simp] theorem State.writeVdisr_result : (s.writeVdisr v).result = s.result := rfl
@[simp] theorem State.writeVdisr_inputs : (s.writeVdisr v).inputs = s.inputs := rfl
@[simp] theorem State.writeVdisr_draws : (s.writeVdisr v).draws = s.draws := rfl

end

/-! ### `State.writeVdfsr`: VDFSR is written (46_vdfsr_vdisr.md R231) -/

section
variable (s : State) (v : Word)

@[simp] theorem State.writeVdfsr_gpr : (s.writeVdfsr v).gpr = s.gpr := rfl
@[simp] theorem State.writeVdfsr_disr : (s.writeVdfsr v).disr = s.disr := rfl
@[simp] theorem State.writeVdfsr_vdisr : (s.writeVdfsr v).vdisr = s.vdisr := rfl
@[simp] theorem State.writeVdfsr_vdfsr : (s.writeVdfsr v).vdfsr = storedValue s.impl (vdfsrFieldMask s.impl) v := rfl
@[simp] theorem State.writeVdfsr_sel : (s.writeVdfsr v).sel = s.sel := rfl
@[simp] theorem State.writeVdfsr_errselrHi : (s.writeVdfsr v).errselrHi = s.errselrHi := rfl
@[simp] theorem State.writeVdfsr_recs : (s.writeVdfsr v).recs = s.recs := rfl
@[simp] theorem State.writeVdfsr_impl : (s.writeVdfsr v).impl = s.impl := rfl
@[simp] theorem State.writeVdfsr_ctx : (s.writeVdfsr v).ctx = s.ctx := rfl
@[simp] theorem State.writeVdfsr_esb : (s.writeVdfsr v).esb = s.esb := rfl
@[simp] theorem State.writeVdfsr_result : (s.writeVdfsr v).result = s.result := rfl
@[simp] theorem State.writeVdfsr_inputs : (s.writeVdfsr v).inputs = s.inputs := rfl
@[simp] theorem State.writeVdfsr_draws : (s.writeVdfsr v).draws = s.draws := rfl

end

/-! ### `State.writeErrselr`: ERRSELR is written (42_errid_errsel.md R162) -/

section
variable (s : State) (v : Word)

@[simp] theorem State.writeErrselr_gpr : (s.writeErrselr v).gpr = s.gpr := rfl
@[simp] theorem State.writeErrselr_disr : (s.writeErrselr v).disr = s.disr := rfl
@[simp] theorem State.writeErrselr_vdisr : (s.writeErrselr v).vdisr = s.vdisr := rfl
@[simp] theorem State.writeErrselr_vdfsr : (s.writeErrselr v).vdfsr = s.vdfsr := rfl
@[simp] theorem State.writeErrselr_recs : (s.writeErrselr v).recs = s.recs := rfl
@[simp] theorem State.writeErrselr_impl : (s.writeErrselr v).impl = s.impl := rfl
@[simp] theorem State.writeErrselr_ctx : (s.writeErrselr v).ctx = s.ctx := rfl
@[simp] theorem State.writeErrselr_esb : (s.writeErrselr v).esb = s.esb := rfl
@[simp] theorem State.writeErrselr_result : (s.writeErrselr v).result = s.result := rfl
@[simp] theorem State.writeErrselr_inputs : (s.writeErrselr v).inputs = s.inputs := rfl
@[simp] theorem State.writeErrselr_draws : (s.writeErrselr v).draws = s.draws := rfl

end

/-! ### `State.writeRecReg`: a register of a record is written (10_state.md R49) -/

section
variable (s : State) (n : Nat) (k : RecReg) (v : DWord)

@[simp] theorem State.writeRecReg_gpr : (s.writeRecReg n k v).gpr = s.gpr := rfl
@[simp] theorem State.writeRecReg_disr : (s.writeRecReg n k v).disr = s.disr := rfl
@[simp] theorem State.writeRecReg_vdisr : (s.writeRecReg n k v).vdisr = s.vdisr := rfl
@[simp] theorem State.writeRecReg_vdfsr : (s.writeRecReg n k v).vdfsr = s.vdfsr := rfl
@[simp] theorem State.writeRecReg_sel : (s.writeRecReg n k v).sel = s.sel := rfl
@[simp] theorem State.writeRecReg_errselrHi : (s.writeRecReg n k v).errselrHi = s.errselrHi := rfl
@[simp] theorem State.writeRecReg_recs : (s.writeRecReg n k v).recs = s.recs.set n ((s.record n).set k v) := rfl
@[simp] theorem State.writeRecReg_impl : (s.writeRecReg n k v).impl = s.impl := rfl
@[simp] theorem State.writeRecReg_ctx : (s.writeRecReg n k v).ctx = s.ctx := rfl
@[simp] theorem State.writeRecReg_esb : (s.writeRecReg n k v).esb = s.esb := rfl
@[simp] theorem State.writeRecReg_result : (s.writeRecReg n k v).result = s.result := rfl
@[simp] theorem State.writeRecReg_inputs : (s.writeRecReg n k v).inputs = s.inputs := rfl
@[simp] theorem State.writeRecReg_draws : (s.writeRecReg n k v).draws = s.draws := rfl

end

/-! ### `State.esbDefersPhysical`: a physical deferral (47_esb_indirect.md R251) -/

section
variable (s : State) (syn : Syndrome)

@[simp] theorem State.esbDefersPhysical_gpr : (s.esbDefersPhysical syn).gpr = s.gpr := rfl
@[simp] theorem State.esbDefersPhysical_disr : (s.esbDefersPhysical syn).disr = s.physicalSyndrome syn := rfl
@[simp] theorem State.esbDefersPhysical_vdisr : (s.esbDefersPhysical syn).vdisr = s.vdisr := rfl
@[simp] theorem State.esbDefersPhysical_vdfsr : (s.esbDefersPhysical syn).vdfsr = s.vdfsr := rfl
@[simp] theorem State.esbDefersPhysical_sel : (s.esbDefersPhysical syn).sel = s.sel := rfl
@[simp] theorem State.esbDefersPhysical_errselrHi : (s.esbDefersPhysical syn).errselrHi = s.errselrHi := rfl
@[simp] theorem State.esbDefersPhysical_recs : (s.esbDefersPhysical syn).recs = s.recs := rfl
@[simp] theorem State.esbDefersPhysical_impl : (s.esbDefersPhysical syn).impl = s.impl := rfl
@[simp] theorem State.esbDefersPhysical_ctx : (s.esbDefersPhysical syn).ctx = s.ctx := rfl
@[simp] theorem State.esbDefersPhysical_esb : (s.esbDefersPhysical syn).esb = s.esb := rfl
@[simp] theorem State.esbDefersPhysical_result : (s.esbDefersPhysical syn).result = s.result := rfl
@[simp] theorem State.esbDefersPhysical_inputs : (s.esbDefersPhysical syn).inputs = s.inputs := rfl
@[simp] theorem State.esbDefersPhysical_draws : (s.esbDefersPhysical syn).draws = s.draws := rfl

end

/-! ### `State.esbDefersVirtual`: a virtual deferral (47_esb_indirect.md R252) -/

section
variable (s : State)

@[simp] theorem State.esbDefersVirtual_gpr : s.esbDefersVirtual.gpr = s.gpr := rfl
@[simp] theorem State.esbDefersVirtual_disr : s.esbDefersVirtual.disr = s.disr := rfl
@[simp] theorem State.esbDefersVirtual_vdisr : s.esbDefersVirtual.vdisr = s.virtualSyndrome := rfl
@[simp] theorem State.esbDefersVirtual_vdfsr : s.esbDefersVirtual.vdfsr = s.vdfsr := rfl
@[simp] theorem State.esbDefersVirtual_sel : s.esbDefersVirtual.sel = s.sel := rfl
@[simp] theorem State.esbDefersVirtual_errselrHi : s.esbDefersVirtual.errselrHi = s.errselrHi := rfl
@[simp] theorem State.esbDefersVirtual_recs : s.esbDefersVirtual.recs = s.recs := rfl
@[simp] theorem State.esbDefersVirtual_impl : s.esbDefersVirtual.impl = s.impl := rfl
@[simp] theorem State.esbDefersVirtual_ctx : s.esbDefersVirtual.ctx = s.ctx := rfl
@[simp] theorem State.esbDefersVirtual_esb : s.esbDefersVirtual.esb = s.esb := rfl
@[simp] theorem State.esbDefersVirtual_result : s.esbDefersVirtual.result = s.result := rfl
@[simp] theorem State.esbDefersVirtual_inputs : s.esbDefersVirtual.inputs = s.inputs := rfl
@[simp] theorem State.esbDefersVirtual_draws : s.esbDefersVirtual.draws = s.draws := rfl

end

/-! ### `State.takeInput`: a step input becomes current (10_state.md R45) -/

section
variable (s : State) (inp : StepInput) (rest : List StepInput)

@[simp] theorem State.takeInput_gpr : (s.takeInput inp rest).gpr = s.gpr := rfl
@[simp] theorem State.takeInput_disr : (s.takeInput inp rest).disr = s.disr := rfl
@[simp] theorem State.takeInput_vdisr : (s.takeInput inp rest).vdisr = s.vdisr := rfl
@[simp] theorem State.takeInput_vdfsr : (s.takeInput inp rest).vdfsr = s.vdfsr := rfl
@[simp] theorem State.takeInput_sel : (s.takeInput inp rest).sel = s.sel := rfl
@[simp] theorem State.takeInput_errselrHi : (s.takeInput inp rest).errselrHi = s.errselrHi := rfl
@[simp] theorem State.takeInput_recs : (s.takeInput inp rest).recs = s.recs := rfl
@[simp] theorem State.takeInput_impl : (s.takeInput inp rest).impl = s.impl := rfl
@[simp] theorem State.takeInput_ctx : (s.takeInput inp rest).ctx = inp.ctx := rfl
@[simp] theorem State.takeInput_esb : (s.takeInput inp rest).esb = inp.esb := rfl
@[simp] theorem State.takeInput_result : (s.takeInput inp rest).result = s.result := rfl
@[simp] theorem State.takeInput_inputs : (s.takeInput inp rest).inputs = rest := rfl
@[simp] theorem State.takeInput_draws : (s.takeInput inp rest).draws = s.draws := rfl

end

/-! ### `State.placeInput`: a step is placed (log 1) -/

section
variable (s : State) (k : StepKind)

@[simp] theorem State.placeInput_gpr : (s.placeInput k).gpr = s.gpr := rfl
@[simp] theorem State.placeInput_disr : (s.placeInput k).disr = s.disr := rfl
@[simp] theorem State.placeInput_vdisr : (s.placeInput k).vdisr = s.vdisr := rfl
@[simp] theorem State.placeInput_vdfsr : (s.placeInput k).vdfsr = s.vdfsr := rfl
@[simp] theorem State.placeInput_sel : (s.placeInput k).sel = s.sel := rfl
@[simp] theorem State.placeInput_errselrHi : (s.placeInput k).errselrHi = s.errselrHi := rfl
@[simp] theorem State.placeInput_recs : (s.placeInput k).recs = s.recs := rfl
@[simp] theorem State.placeInput_impl : (s.placeInput k).impl = s.impl := rfl
@[simp] theorem State.placeInput_ctx : (s.placeInput k).ctx = s.ctx := rfl
@[simp] theorem State.placeInput_esb : (s.placeInput k).esb = s.esb := rfl
@[simp] theorem State.placeInput_result : (s.placeInput k).result = s.result := rfl
@[simp] theorem State.placeInput_inputs : (s.placeInput k).inputs = { ctx := s.ctx, esb := s.esb, kind := k } :: s.inputs := rfl
@[simp] theorem State.placeInput_draws : (s.placeInput k).draws = s.draws := rfl

end

/-- SEL takes the low half, but for a register of reserved bits only (40_access_common.md R131). -/
theorem State.writeErrselr_sel (s : State) (v : Word) :
    (s.writeErrselr v).sel =
      if s.impl.res0Storage = .hardwired0 ∧ s.impl.num = 0 ∧ s.impl.errselrWhenNoRecords = .res0 then 0
      else v.extractLsb' 0 16 := by
  simp only [State.writeErrselr, storedValue, errselrFieldMask]
  cases s.impl.res0Storage
  · by_cases h : s.impl.num = 0 ∧ s.impl.errselrWhenNoRecords = .res0
    · simp [h]
    · have hm : ((s.impl.num == 0 && s.impl.errselrWhenNoRecords == .res0) = true) = False := by simpa using h
      simp only [hm, if_false, true_and, if_neg h]
      ext i hi
      simp only [BitVec.getElem_extractLsb', BitVec.getLsbD_and]
      interval_cases i <;> simp
  · simp

/-- The stored copy of the reserved bits follows a write only under `readback` (40_access_common.md R131). -/
theorem State.writeErrselr_errselrHi (s : State) (v : Word) :
    (s.writeErrselr v).errselrHi =
      if s.impl.res0Storage = .hardwired0 then s.errselrHi else v.extractLsb' 16 16 := by
  simp only [State.writeErrselr]
  cases s.impl.res0Storage <;> rfl

/-! ### Ending a step -/

@[simp] theorem State.finish_eq (s : State) : s.finish = .next { s with result := .done } := rfl
@[simp] theorem State.raise_eq (e : Exc) (s : State) : s.raise e = .next { s with result := .raised e } := rfl

end Sys2Proof.Machine
end

