-- ==== Sys2Proof/Laws/Ops.lean ====
section
/-! SUPPORT. One lemma per shared operation: everything it can do. -/

namespace Sys2Proof.Machine

open Sys2Proof

/-! ### Halves and records -/

/-- A record register after one is set (10_state.md R32). -/
@[simp] theorem Record.get_set (r : Record) (k k' : RecReg) (v : DWord) :
    (r.set k v).get k' = if k' = k then v else r.get k' := by
  cases k <;> cases k' <;> rfl

/-- Writing a record register keeps the number of records (10_state.md R32). -/
@[simp] theorem State.writeRecReg_recs_length (s : State) (n : Nat) (k : RecReg) (v : DWord) :
    (s.writeRecReg n k v).recs.length = s.recs.length := by
  simp

/-- A record after one of its registers is written, at any index. -/
theorem State.record_writeRecReg (s : State) (n m : Nat) (k : RecReg) (v : DWord) :
    (s.writeRecReg n k v).record m = if n = m ∧ m < s.recs.length then (s.record n).set k v else s.record m := by
  simp only [State.record, State.writeRecReg_recs, List.getElem?_set]
  by_cases h : n = m
  · subst h
    by_cases hl : n < s.recs.length <;> simp [hl]
  · simp [h]

/-- A record register after one is written, at any index. -/
theorem State.recReg_writeRecReg (s : State) (n m : Nat) (k k' : RecReg) (v : DWord) :
    (s.writeRecReg n k v).recReg m k' = if n = m ∧ m < s.recs.length ∧ k' = k then v else s.recReg m k' := by
  simp only [State.recReg, State.record_writeRecReg]
  by_cases h : n = m ∧ m < s.recs.length
  · obtain ⟨rfl, hl⟩ := h
    simp [hl]
  · have : ¬(n = m ∧ m < s.recs.length ∧ k' = k) := fun ⟨a, b, _⟩ => h ⟨a, b⟩
    simp [h, this]

/-- The half a write keeps (10_state.md R36: "the other half of the same register is unchanged"). -/
theorem halfOf_withHalf_of_ne (d : DWord) {h h' : Half} (v : Word) (hne : h' ≠ h) :
    halfOf (withHalf d h v) h' = halfOf d h' := by
  cases h <;> cases h' <;> first | contradiction | skip
  · simp only [halfOf, withHalf]
    ext i hi
    simp only [BitVec.getElem_extractLsb', BitVec.getLsbD_append, BitVec.getLsbD_extractLsb']
    grind
  · simp only [halfOf, withHalf]
    ext i hi
    simp only [BitVec.getElem_extractLsb', BitVec.getLsbD_append, BitVec.getLsbD_extractLsb']
    grind

/-! ### Where a write through a window lands -/

/-- Everything `writeHalf` can do: the records and the draw counter change, nothing else, and the records only by a new
value in half `h` of `Rec[n].K` (40_access_common.md R127). -/
theorem State.writeHalf_cases (s : State) (n : Nat) (k : RecReg) (h : Half) (v : Word) :
    s.writeHalf n k h v = s ∨ s.writeHalf n k h v = s.setHalf n k h v ∨
      ∃ w, s.writeHalf n k h v = (s.setHalf n k h w).drawn := by
  unfold State.writeHalf
  split
  · split
    · exact .inl rfl
    · exact .inr (.inl rfl)
  · exact .inr (.inr ⟨_, rfl⟩)

/-- The frame of `writeHalf` on the fields. -/
theorem State.writeHalf_frame (s : State) (n : Nat) (k : RecReg) (h : Half) (v : Word) :
    s.writeHalf n k h v = { s with recs := (s.writeHalf n k h v).recs, draws := (s.writeHalf n k h v).draws } := by
  rcases s.writeHalf_cases n k h v with e | e | ⟨w, e⟩ <;> rw [e] <;> rfl

section
variable (s : State) (n : Nat) (k : RecReg) (h : Half) (v : Word)

@[simp] theorem State.writeHalf_gpr : (s.writeHalf n k h v).gpr = s.gpr := by rw [s.writeHalf_frame n k h v]
@[simp] theorem State.writeHalf_disr : (s.writeHalf n k h v).disr = s.disr := by rw [s.writeHalf_frame n k h v]
@[simp] theorem State.writeHalf_vdisr : (s.writeHalf n k h v).vdisr = s.vdisr := by rw [s.writeHalf_frame n k h v]
@[simp] theorem State.writeHalf_vdfsr : (s.writeHalf n k h v).vdfsr = s.vdfsr := by rw [s.writeHalf_frame n k h v]
@[simp] theorem State.writeHalf_sel : (s.writeHalf n k h v).sel = s.sel := by rw [s.writeHalf_frame n k h v]
@[simp] theorem State.writeHalf_errselrHi : (s.writeHalf n k h v).errselrHi = s.errselrHi := by rw [s.writeHalf_frame n k h v]
@[simp] theorem State.writeHalf_impl : (s.writeHalf n k h v).impl = s.impl := by rw [s.writeHalf_frame n k h v]
@[simp] theorem State.writeHalf_ctx : (s.writeHalf n k h v).ctx = s.ctx := by rw [s.writeHalf_frame n k h v]
@[simp] theorem State.writeHalf_esb : (s.writeHalf n k h v).esb = s.esb := by rw [s.writeHalf_frame n k h v]
@[simp] theorem State.writeHalf_result : (s.writeHalf n k h v).result = s.result := by rw [s.writeHalf_frame n k h v]
@[simp] theorem State.writeHalf_inputs : (s.writeHalf n k h v).inputs = s.inputs := by rw [s.writeHalf_frame n k h v]

end

/-- `writeHalf` keeps the number of records. -/
@[simp] theorem State.writeHalf_recs_length (s : State) (n : Nat) (k : RecReg) (h : Half) (v : Word) :
    (s.writeHalf n k h v).recs.length = s.recs.length := by
  rcases s.writeHalf_cases n k h v with e | e | ⟨w, e⟩ <;> rw [e] <;> simp [State.setHalf]

/-- The halves `setHalf` leaves alone (10_state.md R36). -/
theorem State.setHalf_other (s : State) {n m : Nat} {k k' : RecReg} {h h' : Half} (v : Word)
    (hne : m ≠ n ∨ k' ≠ k ∨ h' ≠ h) :
    halfOf ((s.setHalf n k h v).recReg m k') h' = halfOf (s.recReg m k') h' := by
  simp only [State.setHalf, State.recReg_writeRecReg]
  split
  · rename_i hc
    obtain ⟨rfl, _, rfl⟩ := hc
    exact halfOf_withHalf_of_ne _ _ (by simpa using hne)
  · rfl

/-- A draw leaves the records alone. -/
@[simp] theorem State.recReg_drawn (s : State) (m : Nat) (k : RecReg) : s.drawn.recReg m k = s.recReg m k := rfl

/-- The halves `writeHalf` leaves alone (10_state.md R36). -/
theorem State.writeHalf_other (s : State) {n m : Nat} {k k' : RecReg} {h h' : Half} (v : Word)
    (hne : m ≠ n ∨ k' ≠ k ∨ h' ≠ h) :
    halfOf ((s.writeHalf n k h v).recReg m k') h' = halfOf (s.recReg m k') h' := by
  rcases s.writeHalf_cases n k h v with e | e | ⟨w, e⟩ <;> rw [e]
  · exact s.setHalf_other v hne
  · rw [State.recReg_drawn]
    exact s.setHalf_other w hne

/-- The records `writeHalf` leaves alone (10_state.md R36). -/
theorem State.writeHalf_record_of_ne (s : State) {n m : Nat} (k : RecReg) (h : Half) (v : Word) (hne : m ≠ n) :
    (s.writeHalf n k h v).record m = s.record m := by
  have hset : ∀ w, (s.setHalf n k h w).record m = s.record m := fun w => by
    rw [State.setHalf, State.record_writeRecReg, if_neg fun hc => hne hc.1.symm]
  rcases s.writeHalf_cases n k h v with e | e | ⟨w, e⟩ <;> rw [e]
  · exact hset v
  · exact hset w

/-- A drawn record exists when there is a record (40_access_common.md R126). -/
theorem State.nextUnknownRecord_lt (s : State) (h : s.impl.num ≠ 0) : s.nextUnknownRecord < s.impl.num.toNat :=
  Nat.mod_lt _ (Nat.pos_of_ne_zero fun h0 => h (BitVec.eq_of_toNat_eq (by simpa using h0)))

/-! ### The two tests -/

/-- `SEL >= NUM` as an inequality (10_state.md R35). -/
theorem State.outOfRange_iff (s : State) : s.outOfRange = true ↔ s.impl.num ≤ s.sel := by
  simp [State.outOfRange, BitVec.ule_iff_le]

/-- A record is selected (10_state.md R30). -/
theorem State.outOfRange_eq_false_iff (s : State) : s.outOfRange = false ↔ s.sel < s.impl.num := by
  rw [← Bool.not_eq_true, s.outOfRange_iff, BitVec.not_le]

/-- No record is implemented (10_state.md R31). -/
theorem State.noRecords_iff (s : State) : s.noRecords = true ↔ s.impl.num = 0 := by
  simp [State.noRecords]

/-! ### Accesses -/

/-- Everything a guarded access can do (40_access_common.md R122). -/
theorem guarded_cases {check : Option Exc} {access : State → Res} {s u : State}
    (h : guarded check access s = .next u) :
    (∃ e, check = some e ∧ u = { s with result := .raised e }) ∨ (check = none ∧ access s = .next u) := by
  cases check with
  | some e => exact .inl ⟨e, rfl, by simpa [guarded] using h.symm⟩
  | none => exact .inr ⟨rfl, h⟩

/-- A guarded access that is stopped. -/
theorem guarded_some (e : Exc) (access : State → Res) (s : State) :
    guarded (some e) access s = .next { s with result := .raised e } := rfl

/-- A guarded access that is performed. -/
theorem guarded_none (access : State → Res) (s : State) : guarded none access s = access s := rfl

/-- Everything `erxRead` can do (40_access_common.md R126): R[t] and the draw counter change, nothing else; an outcome
that is raised changes neither. -/
theorem erxRead_cases {k : RecReg} {h : Half} {t : Reg} {s u : State} (hx : erxRead k h t s = .next u) :
    (∃ v d, u = { s with gpr := s.gpr.write t v, draws := d, result := .done }) ∨
      u = { s with result := .done } ∨ u = { s with result := .raised .undefined } := by
  unfold erxRead at hx
  repeat' split at hx
  all_goals cases hx
  · exact .inl ⟨_, _, rfl⟩
  · exact .inl ⟨_, _, rfl⟩
  · exact .inl ⟨_, s.draws, rfl⟩
  · exact .inr (.inl rfl)
  · exact .inr (.inr rfl)
  · exact .inl ⟨_, s.draws, rfl⟩

/-- The record a write through a window reaches: the selected one, else the drawn one (10_state.md R35). -/
def State.windowRecord (s : State) : Nat := if s.outOfRange then s.nextUnknownRecord else s.sel.toNat

/-- `windowRecord` by an inequality (10_state.md R35). -/
theorem State.windowRecord_eq (s : State) :
    s.windowRecord = if s.sel < s.impl.num then s.sel.toNat else s.nextUnknownRecord := by
  unfold State.windowRecord
  by_cases h : s.sel < s.impl.num
  · rw [s.outOfRange_eq_false_iff.2 h, if_pos h]
    rfl
  · rw [s.outOfRange_iff.2 (BitVec.not_lt.1 h), if_neg h]
    rfl

/-- Everything `erxWrite` can do (40_access_common.md R127): one half of one record register, or nothing; an outcome that
is raised changes nothing. -/
theorem erxWrite_cases {k : RecReg} {h : Half} {t : Reg} {s u : State} (hx : erxWrite k h t s = .next u) :
    (∃ d, u = { (({ s with draws := d } : State).writeHalf s.windowRecord k h (s.readGpr t)) with result := .done }) ∨
      u = { s with result := .done } ∨ u = { s with result := .raised .undefined } := by
  unfold erxWrite at hx
  unfold State.windowRecord
  repeat' split at hx
  all_goals cases hx
  · exact .inr (.inl rfl)
  · rename_i ho _ _ _
    exact .inl ⟨s.draws + 1, by rw [if_pos ho]; rfl⟩
  · exact .inr (.inl rfl)
  · exact .inr (.inl rfl)
  · exact .inr (.inr rfl)
  · rename_i ho
    exact .inl ⟨s.draws, by rw [if_neg ho]⟩

/-! ### What an instruction is made of -/

/-- Every instruction is a guarded window read, a guarded window write, or one of the eleven others. -/
theorem exec_shapes (i : Instr) :
    (∃ k h t, i.group = .err ∧ i.isErxWrite = false ∧ i.isMcr = false ∧ i.rt = some t ∧
      ∀ s, exec i s = guarded (errReadCheck i.feature s) (erxRead k h t) s) ∨
    (∃ k h t, i.group = .err ∧ i.isErxWrite = true ∧ i.isMcr = true ∧ k ≠ .fr ∧ (k = .status → h = .lo) ∧
      ∀ s, exec i s = guarded (errWriteCheck i.feature s) (erxWrite k h t) s) ∨
    (∃ c t, i = .mrcDisr c t ∨ i = .mcrDisr c t) ∨
    (∃ c t, i = .mrcErridr c t ∨ i = .mrcErrselr c t ∨ i = .mcrErrselr c t) ∨
    (∃ c t, i = .mrcVdfsr c t ∨ i = .mcrVdfsr c t ∨ i = .mrcVdisr c t ∨ i = .mcrVdisr c t) ∨
    ∃ c, i = .esb c := by
  cases i <;> first
    | exact .inl ⟨_, _, _, rfl, rfl, rfl, rfl, fun _ => rfl⟩
    | exact .inr (.inl ⟨_, _, _, rfl, rfl, rfl, by decide, by decide, fun _ => rfl⟩)
    | exact .inr (.inr (.inr (.inr (.inr ⟨_, rfl⟩))))
    | (rename_i c t; refine .inr (.inr (.inl ⟨c, t, ?_⟩)); simp; done)
    | (rename_i c t; refine .inr (.inr (.inr (.inl ⟨c, t, ?_⟩))); simp; done)
    | (rename_i c t; refine .inr (.inr (.inr (.inr (.inl ⟨c, t, ?_⟩)))); simp)

/-! ### ESB and the steps that are no instruction -/

/-- The physical part of an ESB changes DISR only (47_esb_indirect.md R251). -/
theorem State.esbPhysicalPart_frame (s : State) : s.esbPhysicalPart = { s with disr := s.esbPhysicalPart.disr } := by
  unfold State.esbPhysicalPart
  split
  · split <;> rfl
  · rfl

/-- The virtual part of an ESB changes VDISR only (47_esb_indirect.md R252). -/
theorem State.esbVirtualPart_frame (s : State) : s.esbVirtualPart = { s with vdisr := s.esbVirtualPart.vdisr } := by
  unfold State.esbVirtualPart
  split <;> rfl

section
variable (s : State)

@[simp] theorem State.esbPhysicalPart_gpr : s.esbPhysicalPart.gpr = s.gpr := by rw [s.esbPhysicalPart_frame]
@[simp] theorem State.esbPhysicalPart_vdisr : s.esbPhysicalPart.vdisr = s.vdisr := by rw [s.esbPhysicalPart_frame]
@[simp] theorem State.esbPhysicalPart_vdfsr : s.esbPhysicalPart.vdfsr = s.vdfsr := by rw [s.esbPhysicalPart_frame]
@[simp] theorem State.esbPhysicalPart_sel : s.esbPhysicalPart.sel = s.sel := by rw [s.esbPhysicalPart_frame]
@[simp] theorem State.esbPhysicalPart_errselrHi : s.esbPhysicalPart.errselrHi = s.errselrHi := by rw [s.esbPhysicalPart_frame]
@[simp] theorem State.esbPhysicalPart_recs : s.esbPhysicalPart.recs = s.recs := by rw [s.esbPhysicalPart_frame]
@[simp] theorem State.esbPhysicalPart_impl : s.esbPhysicalPart.impl = s.impl := by rw [s.esbPhysicalPart_frame]
@[simp] theorem State.esbPhysicalPart_ctx : s.esbPhysicalPart.ctx = s.ctx := by rw [s.esbPhysicalPart_frame]
@[simp] theorem State.esbPhysicalPart_esb : s.esbPhysicalPart.esb = s.esb := by rw [s.esbPhysicalPart_frame]
@[simp] theorem State.esbPhysicalPart_result : s.esbPhysicalPart.result = s.result := by rw [s.esbPhysicalPart_frame]
@[simp] theorem State.esbPhysicalPart_inputs : s.esbPhysicalPart.inputs = s.inputs := by rw [s.esbPhysicalPart_frame]
@[simp] theorem State.esbPhysicalPart_draws : s.esbPhysicalPart.draws = s.draws := by rw [s.esbPhysicalPart_frame]

/-- The DISR a physical part leaves. -/
theorem State.esbPhysicalPart_disr :
    s.esbPhysicalPart.disr = s.disr ∨
      (s.physicalAdmissible = true ∧ ∃ syn, s.esb.physical = some syn ∧ s.esbPhysicalPart.disr = s.physicalSyndrome syn) := by
  unfold State.esbPhysicalPart
  split
  · rename_i syn hs
    split
    · rename_i hp
      exact .inr ⟨hp, syn, hs, rfl⟩
    · exact .inl rfl
  · exact .inl rfl

@[simp] theorem State.esbVirtualPart_gpr : s.esbVirtualPart.gpr = s.gpr := by rw [s.esbVirtualPart_frame]
@[simp] theorem State.esbVirtualPart_disr : s.esbVirtualPart.disr = s.disr := by rw [s.esbVirtualPart_frame]
@[simp] theorem State.esbVirtualPart_vdfsr : s.esbVirtualPart.vdfsr = s.vdfsr := by rw [s.esbVirtualPart_frame]
@[simp] theorem State.esbVirtualPart_sel : s.esbVirtualPart.sel = s.sel := by rw [s.esbVirtualPart_frame]
@[simp] theorem State.esbVirtualPart_errselrHi : s.esbVirtualPart.errselrHi = s.errselrHi := by rw [s.esbVirtualPart_frame]
@[simp] theorem State.esbVirtualPart_recs : s.esbVirtualPart.recs = s.recs := by rw [s.esbVirtualPart_frame]
@[simp] theorem State.esbVirtualPart_impl : s.esbVirtualPart.impl = s.impl := by rw [s.esbVirtualPart_frame]
@[simp] theorem State.esbVirtualPart_ctx : s.esbVirtualPart.ctx = s.ctx := by rw [s.esbVirtualPart_frame]
@[simp] theorem State.esbVirtualPart_esb : s.esbVirtualPart.esb = s.esb := by rw [s.esbVirtualPart_frame]
@[simp] theorem State.esbVirtualPart_result : s.esbVirtualPart.result = s.result := by rw [s.esbVirtualPart_frame]
@[simp] theorem State.esbVirtualPart_inputs : s.esbVirtualPart.inputs = s.inputs := by rw [s.esbVirtualPart_frame]
@[simp] theorem State.esbVirtualPart_draws : s.esbVirtualPart.draws = s.draws := by rw [s.esbVirtualPart_frame]

/-- The VDISR a virtual part leaves. -/
theorem State.esbVirtualPart_vdisr :
    s.esbVirtualPart.vdisr = s.vdisr ∨
      (s.virtualAdmissible = true ∧ s.esbVirtualPart.vdisr = s.virtualSyndrome) := by
  unfold State.esbVirtualPart
  split
  · rename_i h
    exact .inr ⟨by simpa using (Bool.and_eq_true_iff.mp h).2, rfl⟩
  · exact .inl rfl

end

/-- Everything an ESB can change: DISR and VDISR (47_esb_indirect.md R255). -/
theorem execEsb_frame {c : Cond} {s u : State} (h : execEsb c s = .next u) :
    u = { s with disr := u.disr, vdisr := u.vdisr, result := .done } := by
  unfold execEsb at h
  split at h
  · rw [State.finish_eq, s.esbPhysicalPart.esbVirtualPart_frame, s.esbPhysicalPart_frame] at h
    cases h
    rfl
  · cases h
    rfl

/-- What a Warm reset leaves alone (70_reset_and_hazards.md R303). -/
theorem warmReset_frame {s u : State} (h : warmReset s = .next u) :
    u.gpr = s.gpr ∧ u.impl = s.impl ∧ u.ctx = s.ctx ∧ u.esb = s.esb ∧ u.inputs = s.inputs ∧ u.recordsComplete := by
  unfold warmReset at h
  cases h
  exact ⟨rfl, rfl, rfl, rfl, rfl, by simp [State.recordsComplete]⟩

/-- The reserved bits of a word drawn at a Warm reset (70_reset_and_hazards.md R301). -/
theorem resetWord_reserved {p : Impl} (hp : p.res0Storage = .hardwired0) (m : Word) (d : Nat) :
    resetWord p m d &&& ~~~m = 0 := by
  unfold resetWord
  rw [hp]
  ext i hi
  simp

/-- The named bits of a word drawn at a Warm reset (70_reset_and_hazards.md R301). -/
theorem resetWord_named (p : Impl) (m : Word) (d : Nat) : resetWord p m d &&& m = Config.unknown32 d &&& m := by
  unfold resetWord
  cases p.res0Storage <;> ext i hi <;> simp
  grind

/-- Everything a step can do: it takes the head of the queue and runs that kind of step in the state that is left. -/
theorem step_cases {s u : State} (h : step s = .next u) :
    ∃ inp rest, s.inputs = inp :: rest ∧ runKind inp.kind (s.takeInput inp rest) = .next u := by
  unfold step at h
  split at h
  · cases h
  · rename_i inp rest hq
    exact ⟨inp, rest, hq, h⟩

/-- Everything a kind of step can run. -/
theorem runKind_cases {k : StepKind} {s u : State} (h : runKind k s = .next u) :
    (∃ i, k.instr = some i ∧ exec i s = .next u) ∨ (k = .virtualSErrorTaken ∧ virtualSErrorTaken s = .next u) ∨
      (∃ n r v, k = .nodeWritesRecord n r v ∧ nodeWritesRecord n r v s = .next u) ∨
      (k = .warmReset ∧ warmReset s = .next u) ∨ (k = .boundary ∧ boundary s = .next u) := by
  cases k with
  | a32 w =>
    simp only [runKind, execDecoded] at h
    split at h
    · rename_i i hd
      exact .inl ⟨i, by simp [StepKind.instr, hd, Except.toOption], h⟩
    · cases h
  | t32 a b =>
    simp only [runKind, execDecoded] at h
    split at h
    · rename_i i hd
      exact .inl ⟨i, by simp [StepKind.instr, hd, Except.toOption], h⟩
    · cases h
  | virtualSErrorTaken => exact .inr (.inl ⟨rfl, h⟩)
  | nodeWritesRecord n r v => exact .inr (.inr (.inl ⟨n, r, v, rfl, h⟩))
  | warmReset => exact .inr (.inr (.inr (.inl ⟨rfl, h⟩)))
  | boundary => exact .inr (.inr (.inr (.inr ⟨rfl, h⟩)))

/-- What a direct write stores under `hardwired0` has its reserved bits zero (40_access_common.md R131). -/
theorem storedValue_reserved {p : Impl} (hp : p.res0Storage = .hardwired0) (m v : Word) :
    storedValue p m v &&& ~~~m = 0 := by
  unfold storedValue
  rw [hp]
  ext i hi
  simp

/-! ### The record space keeps its form: one record for each index below NUM (10_state.md R32)

The spec has no memory (20_memory.md R80); the record space is its only indexed storage. -/

/-- Writing a register of a record keeps the form. -/
theorem State.writeRecReg_recordsComplete {s : State} (hs : s.recordsComplete) (n : Nat) (k : RecReg) (v : DWord) :
    (s.writeRecReg n k v).recordsComplete := by
  simpa [State.recordsComplete] using hs

/-- Writing half of a register of a record keeps the form. -/
theorem State.setHalf_recordsComplete {s : State} (hs : s.recordsComplete) (n : Nat) (k : RecReg) (h : Half) (v : Word) :
    (s.setHalf n k h v).recordsComplete :=
  State.writeRecReg_recordsComplete hs n k _

/-- A write through a window keeps the form. -/
theorem State.writeHalf_recordsComplete {s : State} (hs : s.recordsComplete) (n : Nat) (k : RecReg) (h : Half) (v : Word) :
    (s.writeHalf n k h v).recordsComplete := by
  rcases s.writeHalf_cases n k h v with e | e | ⟨w, e⟩ <;> rw [e]
  · exact hs
  · exact State.setHalf_recordsComplete hs n k h v
  · exact State.setHalf_recordsComplete hs n k h w

/-- The form holds at State.reset. -/
theorem State.reset_recordsComplete : State.reset.recordsComplete := by decide

end Sys2Proof.Machine
end

