-- ==== Sys2Proof/Laws/PerInstr.lean ====
section
/-! SUPPORT. The per-instruction family `EncodesRow`: the word of an instruction carries its condition, its direction and
its transfer register where 30_encoding.md R101 puts them, and is its row of R105 under the row's mask. -/

namespace Sys2Proof.Laws

open Sys2Proof

/-- The condition field of an access word (30_encoding.md R101). -/
theorem accessWord_cond (c : Cond) (opc1 : BitVec 3) (l : BitVec 1) (crn : BitVec 4) (rt : Reg) (opc2 : BitVec 3)
    (crm : BitVec 4) : (accessWord c opc1 l crn rt opc2 crm).extractLsb' 28 4 = c := by
  unfold accessWord
  ext i hi
  simp only [BitVec.getElem_extractLsb', BitVec.getLsbD_append]
  interval_cases i <;> simp

/-- The Rt field of an access word (30_encoding.md R101). -/
theorem accessWord_rt (c : Cond) (opc1 : BitVec 3) (l : BitVec 1) (crn : BitVec 4) (rt : Reg) (opc2 : BitVec 3)
    (crm : BitVec 4) : (accessWord c opc1 l crn rt opc2 crm).extractLsb' 12 4 = rt.bits := by
  unfold accessWord
  ext i hi
  simp only [BitVec.getElem_extractLsb', BitVec.getLsbD_append]
  interval_cases i <;> simp

/-- Under the row mask a word does not depend on its condition and its transfer register (30_encoding.md R105). -/
theorem accessWord_masked (c c' : Cond) (opc1 : BitVec 3) (l : BitVec 1) (crn : BitVec 4) (rt rt' : Reg) (opc2 : BitVec 3)
    (crm : BitVec 4) :
    accessWord c opc1 l crn rt opc2 crm &&& accessMask = accessWord c' opc1 l crn rt' opc2 crm &&& accessMask := by
  unfold accessWord accessMask
  generalize rt.bits = b
  generalize rt'.bits = b'
  ext i hi
  simp only [BitVec.getElem_and, BitVec.getElem_append]
  interval_cases i <;> simp

/-- The L bit of an access word (30_encoding.md R101). -/
theorem accessWord_load (c : Cond) (opc1 : BitVec 3) (l : BitVec 1) (crn : BitVec 4) (rt : Reg) (opc2 : BitVec 3)
    (crm : BitVec 4) : (accessWord c opc1 l crn rt opc2 crm).extractLsb' 20 1 = l := by
  unfold accessWord
  ext i hi
  simp only [BitVec.getElem_extractLsb', BitVec.getLsbD_append]
  interval_cases i; simp

/-- What the word of an instruction is made of (30_encoding.md R101, R105, R112). -/
def EncodesRow.Statement (i : Instr) : Prop :=
  (encode i).extractLsb' 28 4 = i.cond ∧
  (∀ t, i.rt = some t →
    (encode i).extractLsb' 12 4 = t.bits ∧
    (encode i).extractLsb' 20 1 = (if i.isMcr then 0#1 else 1#1) ∧
    ∃ row ∈ accessRows, row.1 = encode i &&& accessMask ∧ row.2 i.cond t = i) ∧
  (i.rt = none → encode i &&& hintMask = esbMatch)

/-- An instruction that is row `k` of the opcode map. -/
theorem encodesRow_of_row (k : Nat) (hk : k < accessRows.length) {i : Instr} {c : Cond} {t : Reg} {opc1 : BitVec 3}
    {l : BitVec 1} {crn : BitVec 4} {opc2 : BitVec 3} {crm : BitVec 4}
    (henc : encode i = accessWord c opc1 l crn t opc2 crm) (hc : i.cond = c) (hrt : i.rt = some t)
    (hl : l = if i.isMcr then 0#1 else 1#1)
    (hm : accessRows[k].1 = accessWord 0#4 opc1 l crn .r0 opc2 crm &&& accessMask) (hrow : accessRows[k].2 c t = i) :
    EncodesRow.Statement i := by
  refine ⟨by rw [henc, hc, accessWord_cond], fun t' ht => ?_, fun hn => ?_⟩
  · obtain rfl : t = t' := Option.some.inj (hrt.symm.trans ht)
    refine ⟨by rw [henc, accessWord_rt], by rw [henc, accessWord_load, hl], accessRows[k], List.getElem_mem hk, ?_, ?_⟩
    · rw [henc, hm]
      exact accessWord_masked _ _ _ _ _ _ _ _ _
    · rw [hc, hrow]
  · exact absurd (hrt.symm.trans hn) (Option.some_ne_none t)

/-- Row 0 of the opcode map. -/
theorem EncodesRow.mrcDisr (c : Cond) (rt : Reg) : EncodesRow.Statement (.mrcDisr c rt) :=
  encodesRow_of_row 0 (by decide) rfl rfl rfl rfl (by decide) rfl

/-- Row 1 of the opcode map. -/
theorem EncodesRow.mcrDisr (c : Cond) (rt : Reg) : EncodesRow.Statement (.mcrDisr c rt) :=
  encodesRow_of_row 1 (by decide) rfl rfl rfl rfl (by decide) rfl

/-- Row 2 of the opcode map. -/
theorem EncodesRow.mrcErridr (c : Cond) (rt : Reg) : EncodesRow.Statement (.mrcErridr c rt) :=
  encodesRow_of_row 2 (by decide) rfl rfl rfl rfl (by decide) rfl

/-- Row 3 of the opcode map. -/
theorem EncodesRow.mrcErrselr (c : Cond) (rt : Reg) : EncodesRow.Statement (.mrcErrselr c rt) :=
  encodesRow_of_row 3 (by decide) rfl rfl rfl rfl (by decide) rfl

/-- Row 4 of the opcode map. -/
theorem EncodesRow.mcrErrselr (c : Cond) (rt : Reg) : EncodesRow.Statement (.mcrErrselr c rt) :=
  encodesRow_of_row 4 (by decide) rfl rfl rfl rfl (by decide) rfl

/-- Row 5 of the opcode map. -/
theorem EncodesRow.mrcErxaddr (c : Cond) (rt : Reg) : EncodesRow.Statement (.mrcErxaddr c rt) :=
  encodesRow_of_row 5 (by decide) rfl rfl rfl rfl (by decide) rfl

/-- Row 6 of the opcode map. -/
theorem EncodesRow.mcrErxaddr (c : Cond) (rt : Reg) : EncodesRow.Statement (.mcrErxaddr c rt) :=
  encodesRow_of_row 6 (by decide) rfl rfl rfl rfl (by decide) rfl

/-- Row 7 of the opcode map. -/
theorem EncodesRow.mrcErxaddr2 (c : Cond) (rt : Reg) : EncodesRow.Statement (.mrcErxaddr2 c rt) :=
  encodesRow_of_row 7 (by decide) rfl rfl rfl rfl (by decide) rfl

/-- Row 8 of the opcode map. -/
theorem EncodesRow.mcrErxaddr2 (c : Cond) (rt : Reg) : EncodesRow.Statement (.mcrErxaddr2 c rt) :=
  encodesRow_of_row 8 (by decide) rfl rfl rfl rfl (by decide) rfl

/-- Row 9 of the opcode map. -/
theorem EncodesRow.mrcErxctlr (c : Cond) (rt : Reg) : EncodesRow.Statement (.mrcErxctlr c rt) :=
  encodesRow_of_row 9 (by decide) rfl rfl rfl rfl (by decide) rfl

/-- Row 10 of the opcode map. -/
theorem EncodesRow.mcrErxctlr (c : Cond) (rt : Reg) : EncodesRow.Statement (.mcrErxctlr c rt) :=
  encodesRow_of_row 10 (by decide) rfl rfl rfl rfl (by decide) rfl

/-- Row 11 of the opcode map. -/
theorem EncodesRow.mrcErxctlr2 (c : Cond) (rt : Reg) : EncodesRow.Statement (.mrcErxctlr2 c rt) :=
  encodesRow_of_row 11 (by decide) rfl rfl rfl rfl (by decide) rfl

/-- Row 12 of the opcode map. -/
theorem EncodesRow.mcrErxctlr2 (c : Cond) (rt : Reg) : EncodesRow.Statement (.mcrErxctlr2 c rt) :=
  encodesRow_of_row 12 (by decide) rfl rfl rfl rfl (by decide) rfl

/-- Row 13 of the opcode map. -/
theorem EncodesRow.mrcErxfr (c : Cond) (rt : Reg) : EncodesRow.Statement (.mrcErxfr c rt) :=
  encodesRow_of_row 13 (by decide) rfl rfl rfl rfl (by decide) rfl

/-- Row 14 of the opcode map. -/
theorem EncodesRow.mrcErxfr2 (c : Cond) (rt : Reg) : EncodesRow.Statement (.mrcErxfr2 c rt) :=
  encodesRow_of_row 14 (by decide) rfl rfl rfl rfl (by decide) rfl

/-- Row 15 of the opcode map. -/
theorem EncodesRow.mrcErxmisc0 (c : Cond) (rt : Reg) : EncodesRow.Statement (.mrcErxmisc0 c rt) :=
  encodesRow_of_row 15 (by decide) rfl rfl rfl rfl (by decide) rfl

/-- Row 16 of the opcode map. -/
theorem EncodesRow.mcrErxmisc0 (c : Cond) (rt : Reg) : EncodesRow.Statement (.mcrErxmisc0 c rt) :=
  encodesRow_of_row 16 (by decide) rfl rfl rfl rfl (by decide) rfl

/-- Row 17 of the opcode map. -/
theorem EncodesRow.mrcErxmisc1 (c : Cond) (rt : Reg) : EncodesRow.Statement (.mrcErxmisc1 c rt) :=
  encodesRow_of_row 17 (by decide) rfl rfl rfl rfl (by decide) rfl

/-- Row 18 of the opcode map. -/
theorem EncodesRow.mcrErxmisc1 (c : Cond) (rt : Reg) : EncodesRow.Statement (.mcrErxmisc1 c rt) :=
  encodesRow_of_row 18 (by decide) rfl rfl rfl rfl (by decide) rfl

/-- Row 19 of the opcode map. -/
theorem EncodesRow.mrcErxmisc2 (c : Cond) (rt : Reg) : EncodesRow.Statement (.mrcErxmisc2 c rt) :=
  encodesRow_of_row 19 (by decide) rfl rfl rfl rfl (by decide) rfl

/-- Row 20 of the opcode map. -/
theorem EncodesRow.mcrErxmisc2 (c : Cond) (rt : Reg) : EncodesRow.Statement (.mcrErxmisc2 c rt) :=
  encodesRow_of_row 20 (by decide) rfl rfl rfl rfl (by decide) rfl

/-- Row 21 of the opcode map. -/
theorem EncodesRow.mrcErxmisc3 (c : Cond) (rt : Reg) : EncodesRow.Statement (.mrcErxmisc3 c rt) :=
  encodesRow_of_row 21 (by decide) rfl rfl rfl rfl (by decide) rfl

/-- Row 22 of the opcode map. -/
theorem EncodesRow.mcrErxmisc3 (c : Cond) (rt : Reg) : EncodesRow.Statement (.mcrErxmisc3 c rt) :=
  encodesRow_of_row 22 (by decide) rfl rfl rfl rfl (by decide) rfl

/-- Row 23 of the opcode map. -/
theorem EncodesRow.mrcErxmisc4 (c : Cond) (rt : Reg) : EncodesRow.Statement (.mrcErxmisc4 c rt) :=
  encodesRow_of_row 23 (by decide) rfl rfl rfl rfl (by decide) rfl

/-- Row 24 of the opcode map. -/
theorem EncodesRow.mcrErxmisc4 (c : Cond) (rt : Reg) : EncodesRow.Statement (.mcrErxmisc4 c rt) :=
  encodesRow_of_row 24 (by decide) rfl rfl rfl rfl (by decide) rfl

/-- Row 25 of the opcode map. -/
theorem EncodesRow.mrcErxmisc5 (c : Cond) (rt : Reg) : EncodesRow.Statement (.mrcErxmisc5 c rt) :=
  encodesRow_of_row 25 (by decide) rfl rfl rfl rfl (by decide) rfl

/-- Row 26 of the opcode map. -/
theorem EncodesRow.mcrErxmisc5 (c : Cond) (rt : Reg) : EncodesRow.Statement (.mcrErxmisc5 c rt) :=
  encodesRow_of_row 26 (by decide) rfl rfl rfl rfl (by decide) rfl

/-- Row 27 of the opcode map. -/
theorem EncodesRow.mrcErxmisc6 (c : Cond) (rt : Reg) : EncodesRow.Statement (.mrcErxmisc6 c rt) :=
  encodesRow_of_row 27 (by decide) rfl rfl rfl rfl (by decide) rfl

/-- Row 28 of the opcode map. -/
theorem EncodesRow.mcrErxmisc6 (c : Cond) (rt : Reg) : EncodesRow.Statement (.mcrErxmisc6 c rt) :=
  encodesRow_of_row 28 (by decide) rfl rfl rfl rfl (by decide) rfl

/-- Row 29 of the opcode map. -/
theorem EncodesRow.mrcErxmisc7 (c : Cond) (rt : Reg) : EncodesRow.Statement (.mrcErxmisc7 c rt) :=
  encodesRow_of_row 29 (by decide) rfl rfl rfl rfl (by decide) rfl

/-- Row 30 of the opcode map. -/
theorem EncodesRow.mcrErxmisc7 (c : Cond) (rt : Reg) : EncodesRow.Statement (.mcrErxmisc7 c rt) :=
  encodesRow_of_row 30 (by decide) rfl rfl rfl rfl (by decide) rfl

/-- Row 31 of the opcode map. -/
theorem EncodesRow.mrcErxstatus (c : Cond) (rt : Reg) : EncodesRow.Statement (.mrcErxstatus c rt) :=
  encodesRow_of_row 31 (by decide) rfl rfl rfl rfl (by decide) rfl

/-- Row 32 of the opcode map. -/
theorem EncodesRow.mcrErxstatus (c : Cond) (rt : Reg) : EncodesRow.Statement (.mcrErxstatus c rt) :=
  encodesRow_of_row 32 (by decide) rfl rfl rfl rfl (by decide) rfl

/-- Row 33 of the opcode map. -/
theorem EncodesRow.mrcVdfsr (c : Cond) (rt : Reg) : EncodesRow.Statement (.mrcVdfsr c rt) :=
  encodesRow_of_row 33 (by decide) rfl rfl rfl rfl (by decide) rfl

/-- Row 34 of the opcode map. -/
theorem EncodesRow.mcrVdfsr (c : Cond) (rt : Reg) : EncodesRow.Statement (.mcrVdfsr c rt) :=
  encodesRow_of_row 34 (by decide) rfl rfl rfl rfl (by decide) rfl

/-- Row 35 of the opcode map. -/
theorem EncodesRow.mrcVdisr (c : Cond) (rt : Reg) : EncodesRow.Statement (.mrcVdisr c rt) :=
  encodesRow_of_row 35 (by decide) rfl rfl rfl rfl (by decide) rfl

/-- Row 36 of the opcode map. -/
theorem EncodesRow.mcrVdisr (c : Cond) (rt : Reg) : EncodesRow.Statement (.mcrVdisr c rt) :=
  encodesRow_of_row 36 (by decide) rfl rfl rfl rfl (by decide) rfl

/-- The ESB word (30_encoding.md R112). -/
theorem EncodesRow.esb (c : Cond) : EncodesRow.Statement (.esb c) := by
  refine ⟨?_, fun t h => by simp [Instr.rt] at h, fun _ => ?_⟩
  · revert c
    decide
  · revert c
    decide

end Sys2Proof.Laws
end

