-- ==== Sys2Proof/Tests/Slice0.lean ====
section
/-! SUPPORT. Tests and witnesses. Expected words and values are those of 95_test_vectors.md (ids in the docstrings),
never the model's own answers. `test_` is a check of the model; `witness_<Name>` meets the hypotheses of an obligation. -/

namespace Sys2Proof.Tests

open Sys2Proof Sys2Proof.Machine

/-! ### Helpers -/

/-- A context in which every input is 0 or false (95_test_vectors.md, Conventions). -/
def quiet (el : EL) : Context :=
  { resetContext with el := el, isMonitor := false, el2UsingAArch32 := false, el3UsingAArch32 := false }

/-- Record 1 of 95_test_vectors.md 2.6. -/
def rec1 : Record :=
  { fr := 0x0123456789ABCDEF#64, ctlr := 0x1111222233334444#64, status := 0xC4000123#64, addr := 0x8000008012345678#64,
    misc0 := 0xA0A0A0A0B0B0B0B0#64, misc1 := 0xC1C1C1C1D1D1D1D1#64, misc2 := 0xE2E2E2E2F2F2F2F2#64,
    misc3 := 0x0303030313131313#64 }

/-- Record 2 of 95_test_vectors.md 2.6. -/
def rec2 : Record := { Record.zero with ctlr := 0x0000000100000113#64 }

/-- The parameters of 95_test_vectors.md 2.6: no EL3. -/
def params : Impl := { Config.resetImpl with haveEL3 := false }

/-- The start state of 95_test_vectors.md 2.6, with the registers of 2.7. -/
def start (el : EL) : State :=
  { State.reset with
    ctx := quiet el, impl := params, sel := 1#16, recs := [Record.zero, rec1, rec2, Record.zero],
    gpr := { Gpr.zero with r0 := 0x55555555#32, r1 := 0xDEADBEEF#32 },
    disr := 0x80000611#32, vdisr := 0x80009406#32, vdfsr := 0x00009000#32 }

/-- One step on a word. -/
def run (w : Word) (s : State) : Res := step (s.withFetchWord 32 w.toNat)

/-- One step of another kind. -/
def runOther (k : StepKind) (s : State) : Res := step (s.placeInput k)

/-- Something of the next state. -/
def after {α : Type} (f : State → α) : Res → Option α
  | .next s => some (f s)
  | .fault _ => none
  | .refused _ => none

/-- R0 and the result. -/
def r0 (s : State) : Word × StepResult := (s.gpr.r0, s.result)

/-! ### WellFormed -/

/-- EN13: the one check there is. -/
theorem test_wf_refuses_cond_1111 : (Instr.mrcErridr 0b1111#4 .r0).wf = false := by decide

theorem test_wf_refuses_esb_cond_1111 : (Instr.esb 0b1111#4).wf = false := by decide

theorem test_wf_accepts_cond_1110 : (Instr.mrcErridr 0b1110#4 .r0).wf = true := by decide

/-! ### Decoding: rows 1 to 37 of 95_test_vectors.md 2.1, column "other Rt"; EN7 to EN15 -/

theorem test_decode_mrcDisr : decodeA32 0xEE1C2F31#32 = .ok (.mrcDisr 0b1110#4 .r2) := by decide
theorem test_decode_mcrDisr : decodeA32 0xEE0C3F31#32 = .ok (.mcrDisr 0b1110#4 .r3) := by decide
theorem test_decode_mrcErridr : decodeA32 0xEE154F13#32 = .ok (.mrcErridr 0b1110#4 .r4) := by decide
theorem test_decode_mrcErrselr : decodeA32 0xEE155F33#32 = .ok (.mrcErrselr 0b1110#4 .r5) := by decide
theorem test_decode_mcrErrselr : decodeA32 0xEE056F33#32 = .ok (.mcrErrselr 0b1110#4 .r6) := by decide
theorem test_decode_mrcErxaddr : decodeA32 0xEE157F74#32 = .ok (.mrcErxaddr 0b1110#4 .r7) := by decide
theorem test_decode_mcrErxaddr : decodeA32 0xEE058F74#32 = .ok (.mcrErxaddr 0b1110#4 .r8) := by decide
theorem test_decode_mrcErxaddr2 : decodeA32 0xEE159FF4#32 = .ok (.mrcErxaddr2 0b1110#4 .r9) := by decide
theorem test_decode_mcrErxaddr2 : decodeA32 0xEE05AFF4#32 = .ok (.mcrErxaddr2 0b1110#4 .r10) := by decide
theorem test_decode_mrcErxctlr : decodeA32 0xEE15BF34#32 = .ok (.mrcErxctlr 0b1110#4 .r11) := by decide
theorem test_decode_mcrErxctlr : decodeA32 0xEE05CF34#32 = .ok (.mcrErxctlr 0b1110#4 .r12) := by decide
theorem test_decode_mrcErxctlr2 : decodeA32 0xEE15EFB4#32 = .ok (.mrcErxctlr2 0b1110#4 .r14) := by decide
theorem test_decode_mcrErxctlr2 : decodeA32 0xEE051FB4#32 = .ok (.mcrErxctlr2 0b1110#4 .r1) := by decide
theorem test_decode_mrcErxfr : decodeA32 0xEE152F14#32 = .ok (.mrcErxfr 0b1110#4 .r2) := by decide
theorem test_decode_mrcErxfr2 : decodeA32 0xEE153F94#32 = .ok (.mrcErxfr2 0b1110#4 .r3) := by decide
theorem test_decode_mrcErxmisc0 : decodeA32 0xEE154F15#32 = .ok (.mrcErxmisc0 0b1110#4 .r4) := by decide
theorem test_decode_mcrErxmisc0 : decodeA32 0xEE055F15#32 = .ok (.mcrErxmisc0 0b1110#4 .r5) := by decide
theorem test_decode_mrcErxmisc1 : decodeA32 0xEE156F35#32 = .ok (.mrcErxmisc1 0b1110#4 .r6) := by decide
theorem test_decode_mcrErxmisc1 : decodeA32 0xEE057F35#32 = .ok (.mcrErxmisc1 0b1110#4 .r7) := by decide
theorem test_decode_mrcErxmisc2 : decodeA32 0xEE158F95#32 = .ok (.mrcErxmisc2 0b1110#4 .r8) := by decide
theorem test_decode_mcrErxmisc2 : decodeA32 0xEE059F95#32 = .ok (.mcrErxmisc2 0b1110#4 .r9) := by decide
theorem test_decode_mrcErxmisc3 : decodeA32 0xEE15AFB5#32 = .ok (.mrcErxmisc3 0b1110#4 .r10) := by decide
theorem test_decode_mcrErxmisc3 : decodeA32 0xEE05BFB5#32 = .ok (.mcrErxmisc3 0b1110#4 .r11) := by decide
theorem test_decode_mrcErxmisc4 : decodeA32 0xEE15CF55#32 = .ok (.mrcErxmisc4 0b1110#4 .r12) := by decide
theorem test_decode_mcrErxmisc4 : decodeA32 0xEE05EF55#32 = .ok (.mcrErxmisc4 0b1110#4 .r14) := by decide
theorem test_decode_mrcErxmisc5 : decodeA32 0xEE151F75#32 = .ok (.mrcErxmisc5 0b1110#4 .r1) := by decide
theorem test_decode_mcrErxmisc5 : decodeA32 0xEE052F75#32 = .ok (.mcrErxmisc5 0b1110#4 .r2) := by decide
theorem test_decode_mrcErxmisc6 : decodeA32 0xEE153FD5#32 = .ok (.mrcErxmisc6 0b1110#4 .r3) := by decide
theorem test_decode_mcrErxmisc6 : decodeA32 0xEE054FD5#32 = .ok (.mcrErxmisc6 0b1110#4 .r4) := by decide
theorem test_decode_mrcErxmisc7 : decodeA32 0xEE155FF5#32 = .ok (.mrcErxmisc7 0b1110#4 .r5) := by decide
theorem test_decode_mcrErxmisc7 : decodeA32 0xEE056FF5#32 = .ok (.mcrErxmisc7 0b1110#4 .r6) := by decide
theorem test_decode_mrcErxstatus : decodeA32 0xEE157F54#32 = .ok (.mrcErxstatus 0b1110#4 .r7) := by decide
theorem test_decode_mcrErxstatus : decodeA32 0xEE058F54#32 = .ok (.mcrErxstatus 0b1110#4 .r8) := by decide
theorem test_decode_mrcVdfsr : decodeA32 0xEE959F72#32 = .ok (.mrcVdfsr 0b1110#4 .r9) := by decide
theorem test_decode_mcrVdfsr : decodeA32 0xEE85AF72#32 = .ok (.mcrVdfsr 0b1110#4 .r10) := by decide
theorem test_decode_mrcVdisr : decodeA32 0xEE9CBF31#32 = .ok (.mrcVdisr 0b1110#4 .r11) := by decide
theorem test_decode_mcrVdisr : decodeA32 0xEE8CCF31#32 = .ok (.mcrVdisr 0b1110#4 .r12) := by decide
theorem test_decode_esb : decodeA32 0xE320F010#32 = .ok (.esb 0b1110#4) := by decide
theorem test_decode_esb_t32 : decodeT32 0xF3AF#16 0x8010#16 = .ok (.esb 0b1110#4) := by decide
theorem test_decode_t32 : decodeT32 0xEE15#16 0x0F13#16 = .ok (.mrcErridr 0b1110#4 .r0) := by decide
theorem test_decode_rt15 : decodeA32 0xEE15FF13#32 = .error .rt15 := by decide
theorem test_decode_rt13 : decodeA32 0xEE05DF33#32 = .error .rt13 := by decide
theorem test_decode_unallocated : decodeA32 0xEE150FD4#32 = .error .unlisted := by decide
theorem test_decode_unlisted : decodeA32 0xEE150F53#32 = .error .unlisted := by decide
theorem test_decode_other_coproc : decodeA32 0xEE1C0E31#32 = .error .unlisted := by decide
theorem test_decode_bit4_zero : decodeA32 0xEE1C0F21#32 = .error .unlisted := by decide
theorem test_decode_unconditional : decodeA32 0xFE150F13#32 = .error .condUnconditional := by decide

/-! ### Reads through the windows: XR1 to XR15, SEL = 1 -/

theorem test_mrcErxfr : after r0 (run 0xEE150F14#32 (start .el2)) = some (0x89ABCDEF#32, .done) := by decide
theorem test_mrcErxfr2 : after r0 (run 0xEE150F94#32 (start .el2)) = some (0x01234567#32, .done) := by decide
theorem test_mrcErxctlr : after r0 (run 0xEE150F34#32 (start .el2)) = some (0x00000000#32, .done) := by decide
theorem test_mrcErxctlr2 : after r0 (run 0xEE150FB4#32 (start .el2)) = some (0x00000000#32, .done) := by decide
theorem test_mrcErxstatus : after r0 (run 0xEE150F54#32 (start .el2)) = some (0xC4000123#32, .done) := by decide
theorem test_mrcErxaddr : after r0 (run 0xEE150F74#32 (start .el2)) = some (0x12345678#32, .done) := by decide
theorem test_mrcErxaddr2 : after r0 (run 0xEE150FF4#32 (start .el2)) = some (0x80000080#32, .done) := by decide
theorem test_mrcErxmisc0 : after r0 (run 0xEE150F15#32 (start .el2)) = some (0xB0B0B0B0#32, .done) := by decide
theorem test_mrcErxmisc1 : after r0 (run 0xEE150F35#32 (start .el2)) = some (0xA0A0A0A0#32, .done) := by decide
theorem test_mrcErxmisc2 : after r0 (run 0xEE150F95#32 (start .el2)) = some (0xD1D1D1D1#32, .done) := by decide
theorem test_mrcErxmisc3 : after r0 (run 0xEE150FB5#32 (start .el2)) = some (0xC1C1C1C1#32, .done) := by decide
theorem test_mrcErxmisc4 : after r0 (run 0xEE150F55#32 (start .el2)) = some (0xF2F2F2F2#32, .done) := by decide
theorem test_mrcErxmisc5 : after r0 (run 0xEE150F75#32 (start .el2)) = some (0xE2E2E2E2#32, .done) := by decide
theorem test_mrcErxmisc6 : after r0 (run 0xEE150FD5#32 (start .el2)) = some (0x13131313#32, .done) := by decide
theorem test_mrcErxmisc7 : after r0 (run 0xEE150FF5#32 (start .el2)) = some (0x03030303#32, .done) := by decide

/-- XR3 under readback. -/
theorem test_mrcErxctlr_readback :
    after r0 (run 0xEE150F34#32 { start .el2 with impl := { params with res0Storage := .readback } })
      = some (0x33334444#32, .done) := by decide

/-- XR16. -/
theorem test_mrcErxctlr2_first : after r0 (run 0xEE150FB4#32 { start .el2 with sel := 2#16 }) = some (1#32, .done) := by
  decide

/-- XO3, XO4, XO7: SEL = 4 = NUM, and SEL = 0xFFFF. -/
theorem test_mrcErxstatus_nop :
    after r0 (run 0xEE150F54#32 { start .el2 with sel := 4#16, impl := { params with erxOor := .nop } })
      = some (0x55555555#32, .done) := by decide
theorem test_mrcErxfr_undef :
    after r0 (run 0xEE150F14#32 { start .el2 with sel := 4#16, impl := { params with erxOor := .undef } })
      = some (0x55555555#32, .raised .undefined) := by decide
theorem test_mrcErxmisc7_razwi : after r0 (run 0xEE150FF5#32 { start .el2 with sel := 0xFFFF#16 }) = some (0#32, .done) := by
  decide

/-- EM1: the feature test of ERXMISC4. -/
theorem test_mrcErxmisc4_feature :
    after r0 (run 0xEE150F55#32 { start .el2 with impl := { params with featRASv1p1 := false } })
      = some (0x55555555#32, .raised .undefined) := by decide

/-! ### Writes through the windows (XW1 to XW5), column "open": the half written is ERR_WRITE_EFFECT of its old value and R1 -/

theorem test_mcrErxaddr : after (fun s => s.record 1) (run 0xEE051F74#32 (start .el2))
    = some { rec1 with addr := 0x80000080#32 ++ Config.errWriteEffect .addr .lo 0x12345678#32 0xDEADBEEF#32 0 } := by rfl
theorem test_mcrErxaddr2 : after (fun s => s.record 1) (run 0xEE051FF4#32 (start .el2))
    = some { rec1 with addr := Config.errWriteEffect .addr .hi 0x80000080#32 0xDEADBEEF#32 0 ++ 0x12345678#32 } := by rfl
theorem test_mcrErxmisc0 : after (fun s => s.record 1) (run 0xEE051F15#32 (start .el2))
    = some { rec1 with misc0 := 0xA0A0A0A0#32 ++ Config.errWriteEffect .misc0 .lo 0xB0B0B0B0#32 0xDEADBEEF#32 0 } := by rfl
theorem test_mcrErxmisc1 : after (fun s => s.record 1) (run 0xEE051F35#32 (start .el2))
    = some { rec1 with misc0 := Config.errWriteEffect .misc0 .hi 0xA0A0A0A0#32 0xDEADBEEF#32 0 ++ 0xB0B0B0B0#32 } := by rfl
theorem test_mcrErxmisc2 : after (fun s => s.record 1) (run 0xEE051F95#32 (start .el2))
    = some { rec1 with misc1 := 0xC1C1C1C1#32 ++ Config.errWriteEffect .misc1 .lo 0xD1D1D1D1#32 0xDEADBEEF#32 0 } := by rfl
theorem test_mcrErxmisc3 : after (fun s => s.record 1) (run 0xEE051FB5#32 (start .el2))
    = some { rec1 with misc1 := Config.errWriteEffect .misc1 .hi 0xC1C1C1C1#32 0xDEADBEEF#32 0 ++ 0xD1D1D1D1#32 } := by rfl
theorem test_mcrErxmisc4 : after (fun s => s.record 1) (run 0xEE051F55#32 (start .el2))
    = some { rec1 with misc2 := 0xE2E2E2E2#32 ++ Config.errWriteEffect .misc2 .lo 0xF2F2F2F2#32 0xDEADBEEF#32 0 } := by rfl
theorem test_mcrErxmisc5 : after (fun s => s.record 1) (run 0xEE051F75#32 (start .el2))
    = some { rec1 with misc2 := Config.errWriteEffect .misc2 .hi 0xE2E2E2E2#32 0xDEADBEEF#32 0 ++ 0xF2F2F2F2#32 } := by rfl
theorem test_mcrErxmisc6 : after (fun s => s.record 1) (run 0xEE051FD5#32 (start .el2))
    = some { rec1 with misc3 := 0x03030303#32 ++ Config.errWriteEffect .misc3 .lo 0x13131313#32 0xDEADBEEF#32 0 } := by rfl
theorem test_mcrErxmisc7 : after (fun s => s.record 1) (run 0xEE051FF5#32 (start .el2))
    = some { rec1 with misc3 := Config.errWriteEffect .misc3 .hi 0x03030303#32 0xDEADBEEF#32 0 ++ 0x13131313#32 } := by rfl
theorem test_mcrErxstatus : after (fun s => s.record 1) (run 0xEE051F54#32 (start .el2))
    = some { rec1 with status := 0x00000000#32 ++ Config.errWriteEffect .status .lo 0xC4000123#32 0xDEADBEEF#32 0 } := by rfl

/-- XW5: a reserved window under readback, and under hardwired0. -/
theorem test_mcrErxctlr : after (fun s => (s.recReg 1 .ctlr, s.draws))
    (run 0xEE051F34#32 { start .el2 with impl := { params with res0Storage := .readback } })
      = some (0x11112222DEADBEEF#64, 0) := by decide
theorem test_mcrErxctlr2 : after (fun s => (s.recReg 1 .ctlr, s.draws)) (run 0xEE051FB4#32 (start .el2))
      = some (0x1111222233334444#64, 0) := by decide

/-! ### ERRIDR and ERRSELR (ES1, ES2, ES4, ES5, ES9, ES10) -/

theorem test_mrcErridr : after r0 (run 0xEE150F13#32 (start .el2)) = some (4#32, .done) := by decide
theorem test_mrcErridr_none : after r0 (run 0xEE150F13#32 { start .el2 with impl := { params with num := 0 }, recs := [] })
    = some (0#32, .done) := by decide
theorem test_mrcErrselr : after r0 (run 0xEE150F33#32 { start .el2 with
    impl := { params with res0Storage := .readback }, errselrHi := 0xABCD#16 }) = some (0xABCD0001#32, .done) := by decide
theorem test_mrcErrselr_trap_first : after r0 (run 0xEE150F33#32 { start .el1 with
    impl := { params with num := 0, errselrWhenNoRecords := .undefined }, recs := [],
    ctx := { quiet .el1 with el2Enabled := true, el2UsingAArch32 := true, hstrT5 := true } })
      = some (0x55555555#32, .raised (.hypTrap 3)) := by decide
theorem test_mcrErrselr : after (fun s => (s.sel, s.errselrHi, s.result)) (run 0xEE051F33#32 { start .el2 with
    gpr := { Gpr.zero with r1 := 0xABCD0002#32 } }) = some (2#16, 0#16, .done) := by decide
theorem test_mcrErrselr_undefined : after (fun s => (s.sel, s.result)) (run 0xEE051F33#32 { start .el2 with
    impl := { params with num := 0, errselrWhenNoRecords := .undefined }, recs := [] })
      = some (1#16, .raised .undefined) := by decide

/-! ### DISR (DI6, DI15, DI12, DW1) -/

theorem test_mrcDisr_redirected : after r0 (run 0xEE1C0F31#32 { start .el1 with
    ctx := { quiet .el1 with el2Enabled := true, hcrEL2AMO := true } }) = some (0x80009406#32, .done) := by decide
theorem test_mrcDisr_zero : after r0 (run 0xEE1C0F31#32 { start .el1 with
    impl := Config.resetImpl, ctx := { quiet .el1 with scrEL3EA := true } }) = some (0#32, .done) := by decide
theorem test_mcrDisr_redirected : after (fun s => (s.disr, s.vdisr)) (run 0xEE0C1F31#32 { start .el1 with
    gpr := Gpr.zero, impl := Config.resetImpl,
    ctx := { quiet .el1 with el2Enabled := true, el2UsingAArch32 := true, el3UsingAArch32 := true, hcrAMO := true,
                             scrEA := true } }) = some (0x80000611#32, 0#32) := by decide
theorem test_mcrDisr_reserved : after (fun s => s.disr) (run 0xEE0C1F31#32 { start .el3 with
    gpr := { Gpr.zero with r1 := 0xFFFFFFFF#32 } }) = some 0x8000DE3F#32 := by decide

/-! ### VDFSR and VDISR (VV1, VV3, VV4, VV6, VI13, VI4) -/

theorem test_mrcVdfsr : after r0 (run 0xEE950F72#32 (start .el2)) = some (0x00009000#32, .done) := by decide
theorem test_mrcVdfsr_el3_secure : after r0 (run 0xEE950F72#32 { start .el3 with ctx := { quiet .el3 with isMonitor := true } })
    = some (0x55555555#32, .raised .undefined) := by decide
theorem test_mcrVdfsr : after (fun s => s.vdfsr) (run 0xEE852F72#32 { start .el2 with
    gpr := { Gpr.zero with r2 := 0xFFFFFFFF#32 } }) = some 0x0000D000#32 := by decide
theorem test_mcrVdfsr_trapped : after (fun s => (s.vdfsr, s.result)) (run 0xEE852F72#32 { start .el1 with
    ctx := { quiet .el1 with el2Enabled := true, el2UsingAArch32 := true, hstrT5 := true } })
      = some (0x00009000#32, .raised (.hypTrap 3)) := by decide
theorem test_mrcVdisr : after r0 (run 0xEE9C0F31#32 (start .el2)) = some (0x80009406#32, .done) := by decide
theorem test_mcrVdisr : after (fun s => s.vdisr) (run 0xEE8C1F31#32 { start .el2 with
    gpr := { Gpr.zero with r1 := 0xFFFFFFFF#32 } }) = some 0x8000D63F#32 := by decide

/-! ### ESB and the environment's events (EV2, EV8, EV12, EV18, EV17, X6, RS1) -/

/-- A syndrome with AET and EA of EV8, ExT and FS of EV12. -/
def syn8 : Syndrome := { aet := 0b01#2, ea := 1#1, ext := 0#1, dfsc := 0b010001#6, fs := 0#5, status := 0#6 }

/-- The syndrome of EV12. -/
def syn12 : Syndrome := { aet := 0b10#2, ea := 0#1, ext := 1#1, dfsc := 0#6, fs := 0b01000#5, status := 0#6 }

/-- EV8 with EV18: at EL2 the physical deferral is recorded, the virtual one may not be raised. -/
theorem test_esb_el2 : after (fun s => (s.disr, s.vdisr)) (run 0xE320F010#32 { start .el2 with
    disr := 0, esb := { physical := some syn8, virtual := true } }) = some (0x80000611#32, 0x80009406#32) := by decide

/-- EV12 and EV2: at EL1 both are recorded. -/
theorem test_esb_el1 : after (fun s => (s.disr, s.vdisr)) (run 0xE320F010#32 { start .el1 with
    vdisr := 0, esb := { physical := some syn12, virtual := true } }) = some (0x80009008#32, 0x80009406#32) := by decide

/-- X6. -/
theorem test_virtualSErrorTaken : after (fun s => (s.result, s.vdisr)) (runOther .virtualSErrorTaken { start .el1 with
    vdfsr := 0x00004000#32 }) = some (.virtualSErrorReported 0b01#2 0#1, 0x80009406#32) := by decide

/-- EV17. -/
theorem test_virtualSErrorTaken_refused : runOther .virtualSErrorTaken { start .el1 with
    impl := { params with haveEL2 := false } } = .refused .eventNotAdmissible := by rfl

/-- 10_state.md R49(b). -/
theorem test_nodeWrites : after (fun s => s.recReg 3 .status) (runOther (.nodeWritesRecord 3 .status 7#64) (start .el2))
    = some 7#64 := by decide

/-- RS1, RS3. -/
theorem test_warmReset : after (fun s => (s.impl, s.gpr, s.recs.length)) (runOther .warmReset (start .el2))
    = some (params, (start .el2).gpr, 4) := by decide

/-! ### Witnesses: concrete states and operands that meet the hypotheses of each obligation -/

/-- A list of step inputs in a quiet context. -/
def queue (el : EL) (ks : List StepKind) : List StepInput :=
  ks.map (fun k => { ctx := quiet el, esb := { physical := none, virtual := false }, kind := k })

/-- EL1 under EL2 using AArch32, with EL3 using AArch32 and all parameters. -/
def guest : State :=
  { start .el1 with
    impl := Config.resetImpl
    ctx := { quiet .el1 with el2Enabled := true, el2UsingAArch32 := true, el3UsingAArch32 := true } }

/-- EL1 under EL2 using AArch64, with EL3 using AArch64 and all parameters. -/
def guest64 : State := { guest with ctx := { quiet .el1 with el2Enabled := true } }

theorem witness_DecodeEncodeAgree : (Instr.mcrVdisr 0b0000#4 .r14).wf = true ∧ (Instr.esb 0b1110#4).wf = true := by decide

theorem witness_EncodeDecodeAgree : decodeA32 0x0E8CEF31#32 = .ok (.mcrVdisr 0b0000#4 .r14) := by decide

theorem witness_RefusesRt13AndRt15 :
    (Instr.mcrErrselr 0b1110#4 .r0).group ≠ .esb ∧ (0xEE05DF33#32).extractLsb' 28 4 ≠ 0b1111#4 ∧
    0xEE05DF33#32 &&& 0x0FFF0FFF#32 = encode (.mcrErrselr 0b1110#4 .r0) &&& 0x0FFF0FFF#32 ∧
    (0xEE05DF33#32).extractLsb' 12 4 = 13#4 ∧
    0xEE05FF33#32 &&& 0x0FFF0FFF#32 = encode (.mcrErrselr 0b1110#4 .r0) &&& 0x0FFF0FFF#32 ∧
    (0xEE05FF33#32).extractLsb' 12 4 = 15#4 := by decide

theorem witness_RefusesReadOnlyWritesAndUnconditionalWords :
    (0xFE150F13#32).extractLsb' 28 4 = 0b1111#4 ∧ (0xEE05FF94#32).extractLsb' 28 4 ≠ 0b1111#4 ∧
    0xEE05FF94#32 &&& 0x0FFF0FFF#32 = 0x0E050F94#32 ∧ 0x0E050F13#32 &&& 0x0FFF0FFF#32 = 0x0E050F13#32 ∧
    0x0E050F14#32 &&& 0x0FFF0FFF#32 = 0x0E050F14#32 := by decide

theorem witness_StepRunsTheDecodedInstruction :
    (decodeA32 0xEE150F13#32 = .ok (.mrcErridr 0b1110#4 .r0) ∧
      ({ start .el2 with inputs := queue .el2 [.a32 0xEE150F13#32] } : State).inputs
        = { ctx := quiet .el2, esb := { physical := none, virtual := false }, kind := .a32 0xEE150F13#32 } :: []) ∧
    (decodeT32 0xEE15#16 0x0F13#16 = .ok (.mrcErridr 0b1110#4 .r0) ∧
      ({ start .el2 with inputs := queue .el2 [.t32 0xEE15#16 0x0F13#16] } : State).inputs
        = { ctx := quiet .el2, esb := { physical := none, virtual := false }, kind := .t32 0xEE15#16 0x0F13#16 } :: []) := by
  decide

theorem witness_StepRunsThePlacedWord : (Instr.mrcErridr 0b0000#4 .r0).wf = true := by decide

theorem witness_StepStopsWithoutAnInstruction :
    (start .el2).inputs = [] ∧ decodeA32 0xFE150F13#32 = .error .condUnconditional ∧
    decodeT32 0x0000#16 0x0000#16 = .error .unlisted ∧
    (queue .el2 [.a32 0xFE150F13#32]).map (fun i => i.kind) = [.a32 0xFE150F13#32] ∧
    (queue .el2 [.t32 0#16 0#16]).map (fun i => i.kind) = [.t32 0#16 0#16] := by decide

/-- A step from a state with the invariant, that changes a general register. -/
theorem witness_StepKeepsInvariant :
    (start .el2).Inv ∧ ∃ t, run 0xEE150F13#32 (start .el2) = .next t ∧ t.gpr.r0 = 4#32 := by
  refine ⟨by decide, _, rfl, by decide⟩

theorem witness_StepKeepsTheImplementation : ∃ t, run 0xEE150F13#32 (start .el2) = .next t := ⟨_, rfl⟩

/-- An MRC meets every clause but the last, a boundary the last. -/
theorem witness_OnlyTheirWritersChangeTheRegisters :
    (∃ t, step { start .el2 with inputs := queue .el2 [.a32 0xEE150F13#32] } = .next t) ∧
    (StepKind.a32 0xEE150F13#32).mayWriteDisr = false ∧ (StepKind.a32 0xEE150F13#32).mayWriteVdisr = false ∧
    (StepKind.a32 0xEE150F13#32).mayWriteVdfsr = false ∧ (StepKind.a32 0xEE150F13#32).mayWriteSel = false ∧
    (StepKind.a32 0xEE150F13#32).mayWriteRecords = false ∧
    (∃ t, step { start .el2 with inputs := queue .el2 [.boundary] } = .next t) ∧
    StepKind.boundary.mayWriteGpr = false :=
  ⟨⟨_, rfl⟩, by decide, by decide, by decide, by decide, by decide, ⟨_, rfl⟩, by decide⟩

/-- An ESB in a state with both A bits set. -/
theorem witness_NothingClearsABitButADirectWriteOrReset :
    (∃ t, step { start .el1 with inputs := queue .el1 [.a32 0xE320F010#32] } = .next t) ∧
    StepKind.a32 0xE320F010#32 ≠ .warmReset ∧ (StepKind.a32 0xE320F010#32).instr = some (.esb 0b1110#4) ∧
    ¬((Instr.esb 0b1110#4).group = .disr ∧ (Instr.esb 0b1110#4).isMcr = true) ∧
    ¬(((Instr.esb 0b1110#4).group = .disr ∨ (Instr.esb 0b1110#4).group = .vdisr) ∧ (Instr.esb 0b1110#4).isMcr = true) ∧
    (start .el1).disr.getLsbD 31 = true ∧ (start .el1).vdisr.getLsbD 31 = true :=
  ⟨⟨_, rfl⟩, by decide, by decide, by decide, by decide, by decide, by decide⟩

theorem witness_OutcomesOfEachGroup :
    mayEndIn (Instr.mcrErxstatus 0#4 .r0).group (.raised .monitorTrap) = true ∧
    ∃ t, exec (.mrcDisr 0#4 .r0) (start .el0) = .next t ∧ t.result = .raised .undefined := by
  refine ⟨by decide, _, rfl, by decide⟩

theorem witness_ExceptionalOutcomesChangeNothing :
    ∃ t, exec (.mcrDisr 0#4 .r1) (start .el0) = .next t ∧ t.result = .raised .undefined :=
  ⟨_, rfl, by decide⟩

theorem witness_AbsentRegisterIsUndefined :
    (Instr.mrcErxmisc4 0#4 .r0).group ≠ .esb ∧
    hasFeature { params with featRASv1p1 := false } (Instr.mrcErxmisc4 0#4 .r0).feature = false ∧
    ({ params with featAA32EL1 := false } : Impl).featAA32EL1 = false := by decide

theorem witness_El0AccessIsUndefined : (Instr.mrcErridr 0#4 .r0).group ≠ .esb ∧ (start .el0).ctx.el = .el0 := by decide

/-- One state for each clause: EL2 using AArch64, EL2 using AArch32. -/
theorem witness_ErrAccessTrapsToEL2 :
    let i := Instr.mcrErxaddr 0#4 .r1
    let a := { guest64 with ctx := { guest64.ctx with hstrEL2T5 := true } }
    let b := { guest with ctx := { guest.ctx with hcr2TERR := true } }
    i.group = .err ∧ a.present i.feature = true ∧ a.ctx.el = .el1 ∧ a.errSddPriority i.isMcr = false ∧
    a.errTrapsToEL2A64 = true ∧ b.present i.feature = true ∧ b.ctx.el = .el1 ∧ b.errSddPriority i.isMcr = false ∧
    b.errTrapsToEL2A32 = true := by decide

theorem witness_ErrAccessSddPriorityUndefined :
    let i := Instr.mcrErxaddr 0#4 .r1
    let a := { guest64 with ctx := { guest64.ctx with el3SDDUndefPriority := true, scrEL3TWERR := true } }
    let b := { guest with ctx := { guest.ctx with el := .el2, el3SDDUndefPriority := true, scrTERR := true } }
    i.group = .err ∧ a.ctx.el = .el1 ∧ a.errSddPriority i.isMcr = true ∧ b.ctx.el = .el2 ∧
    b.errSddPriority i.isMcr = true := by decide

/-- One state for each clause: EL3 using AArch64 from EL1, EL3 using AArch32 from EL2 and from EL1, EL3 not in Monitor
mode. -/
theorem witness_ErrAccessTrapsToEL3 :
    let i := Instr.mcrErxaddr 0#4 .r1
    let a := { guest64 with ctx := { guest64.ctx with scrEL3TWERR := true } }
    let b := { guest with ctx := { guest.ctx with el := .el2, scrTERR := true } }
    let c := { guest with ctx := { guest.ctx with scrTERR := true } }
    let d := { start .el3 with ctx := { quiet .el3 with scrTERR := true } }
    i.group = .err ∧ a.present i.feature = true ∧ b.present i.feature = true ∧ c.present i.feature = true ∧
    d.present i.feature = true ∧
    a.ctx.el3SDDUndefPriority = false ∧ a.ctx.el = .el1 ∧ a.errTrapsToEL2A64 = false ∧ a.errTrapsToEL2A32 = false ∧
    a.errControlEL3A64 i.isMcr = true ∧
    b.ctx.el3SDDUndefPriority = false ∧ b.ctx.el = .el2 ∧ b.errControlEL3A32 = true ∧
    c.ctx.el = .el1 ∧ c.errTrapsToEL2A64 = false ∧ c.errTrapsToEL2A32 = false ∧ c.errControlEL3A32 = true ∧
    c.ctx.isMonitor = false ∧
    d.ctx.el = .el3 ∧ d.ctx.isMonitor = false ∧ d.ctx.scrTERR = true := by decide

/-- Both sides of both equivalences are met, at EL1 and at EL3. -/
theorem witness_ErrAccessPerformedExactlyWhenOpen :
    errReadCheck .ras guest = none ∧ guest.errOpen false .ras = true ∧
    errWriteCheck .rasv1p1 State.reset = none ∧ State.reset.errOpen true .rasv1p1 = true := by decide

theorem witness_MrcErridrReadsNum : guest.errOpen false .ras = true := by decide

/-- SEL at NUM - 1, at NUM, and at 0xFFFF. -/
theorem witness_MrcErrselrReadsSel :
    ({ guest with sel := 3#16 } : State).errOpen false .ras = true ∧ guest.impl.num ≠ 0 ∧
    (3#16 : BitVec 16) < guest.impl.num ∧ guest.impl.num ≤ (4#16 : BitVec 16) ∧
    guest.impl.num ≤ (0xFFFF#16 : BitVec 16) := by decide

/-- With records, and without any: ES12. -/
theorem witness_McrErrselrWritesSel :
    let none : State := { guest with impl := { Config.resetImpl with num := 0 }, recs := [] }
    guest.errOpen true .ras = true ∧ guest.impl.num ≠ 0 ∧
    none.errOpen true .ras = true ∧ none.impl.num = 0 ∧ none.impl.errselrWhenNoRecords = .res0 ∧
    none.impl.res0Storage = .hardwired0 := by decide

theorem witness_ErrselrUndefinedWithoutRecords :
    let s := { guest with impl := { Config.resetImpl with num := 0, errselrWhenNoRecords := .undefined }, recs := [] }
    s.impl.num = 0 ∧ s.impl.errselrWhenNoRecords = .undefined ∧ s.errOpen false .ras = true ∧
    s.errOpen true .ras = true := by decide

/-- SEL at NUM - 1; the control window at a first record. -/
theorem witness_WindowReadsReachTheSelectedHalf :
    ({ access := .mrcErxmisc7, reg := .misc3, half := .hi, feature := .rasv1p1 } : Window) ∈ windowReads ∧
    ({ guest with sel := 3#16 } : State).errOpen false .rasv1p1 = true ∧ (3#16 : BitVec 16) < guest.impl.num ∧
    RecReg.misc3 ≠ .ctlr ∧
    ({ access := .mrcErxctlr, reg := .ctlr, half := .lo, feature := .ras } : Window) ∈ windowReads ∧
    ({ guest with sel := 2#16 } : State).errOpen false .ras = true ∧ firstOfNode guest.impl 2 = true :=
  ⟨by simp [windowReads], by decide, by decide, by decide, by simp [windowReads], by decide, by decide⟩

/-- SEL at 0 and at NUM - 1. -/
theorem witness_WindowWritesChangeTheSelectedHalf :
    ({ access := .mcrErxmisc7, reg := .misc3, half := .hi, feature := .rasv1p1 } : Window) ∈ windowWrites ∧
    ({ guest with sel := 3#16 } : State).errOpen true .rasv1p1 = true ∧ (3#16 : BitVec 16) < guest.impl.num ∧
    RecReg.misc3 ≠ .ctlr ∧
    ({ access := .mcrErxctlr, reg := .ctlr, half := .lo, feature := .ras } : Window) ∈ windowWrites ∧
    ({ guest with sel := 0#16 } : State).errOpen true .ras = true ∧ firstOfNode guest.impl 0 = true :=
  ⟨by simp [windowWrites], by decide, by decide, by decide, by simp [windowWrites], by decide, by decide⟩

/-- A write in range, and one out of range that selects no record. -/
theorem witness_WindowWriteFrame :
    ({ access := .mcrErxaddr, reg := .addr, half := .lo, feature := .ras } : Window) ∈ windowWrites ∧
    (∃ u, exec (.mcrErxaddr 0#4 .r1) guest = .next u) ∧
    (∃ u, exec (.mcrErxaddr 0#4 .r1) { guest with sel := 4#16 } = .next u) ∧
    guest.impl.num ≤ (4#16 : BitVec 16) ∧ guest.impl.erxOor ≠ .unknownRecord :=
  ⟨by simp [windowWrites], ⟨_, rfl⟩, ⟨_, rfl⟩, by decide, by decide⟩

/-- SEL at NUM; one implementation for each option, and one with no record. -/
theorem witness_WindowReadsOutOfRange :
    let st (o : OutOfRangeOption) : State := { guest with sel := 4#16, impl := { Config.resetImpl with erxOor := o } }
    let none : State := { guest with impl := { Config.resetImpl with erxOor := .unknownRecord, num := 0 }, recs := [] }
    ({ access := .mrcErxfr, reg := .fr, half := .lo, feature := .ras } : Window) ∈ windowReads ∧
    (∀ o ∈ [OutOfRangeOption.razWi, .nop, .undef, .unknownRecord],
      (st o).errOpen false .ras = true ∧ (st o).impl.num ≤ (st o).sel ∧ (st o).impl.erxOor = o ∧ (st o).impl.num ≠ 0) ∧
    none.errOpen false .ras = true ∧ none.impl.num ≤ none.sel ∧ none.impl.erxOor = .unknownRecord ∧
    none.impl.num = 0 :=
  ⟨by simp [windowReads], by decide, by decide, by decide, by decide, by decide⟩

theorem witness_WindowWritesOutOfRange :
    let st (o : OutOfRangeOption) : State := { guest with sel := 4#16, impl := { Config.resetImpl with erxOor := o } }
    let none : State := { guest with impl := { Config.resetImpl with erxOor := .unknownRecord, num := 0 }, recs := [] }
    ({ access := .mcrErxstatus, reg := .status, half := .lo, feature := .ras } : Window) ∈ windowWrites ∧
    (∀ o ∈ [OutOfRangeOption.razWi, .nop, .undef, .unknownRecord],
      (st o).errOpen true .ras = true ∧ (st o).impl.num ≤ (st o).sel ∧ (st o).impl.erxOor = o ∧ (st o).impl.num ≠ 0) ∧
    none.errOpen true .ras = true ∧ none.impl.num ≤ none.sel ∧ none.impl.erxOor = .unknownRecord ∧
    none.impl.num = 0 :=
  ⟨by simp [windowWrites], by decide, by decide, by decide, by decide, by decide⟩

/-- SEL at 1 and at NUM - 1, neither the first record of its node. -/
theorem witness_CtlrWindowsOfALaterRecordAreReserved :
    guest.sel < guest.impl.num ∧ firstOfNode guest.impl guest.sel.toNat = false ∧
    firstOfNode guest.impl 3 = false ∧ guest.errOpen false .ras = true ∧ guest.errOpen true .ras = true := by decide

theorem witness_FeatureRegistersAndUpperStatusAreNotWritable :
    ∃ t, exec (.mcrErxstatus 0#4 .r1) guest = .next t := ⟨_, rfl⟩

theorem witness_MrcFrame :
    (Instr.mrcDisr 0#4 .r0).isMrc = true ∧ (Instr.mrcDisr 0#4 .r0).rt ≠ some .r1 ∧
    ∃ u, exec (.mrcDisr 0#4 .r0) guest = .next u := ⟨by decide, by decide, _, rfl⟩

theorem witness_McrFrame :
    (∀ i ∈ [Instr.mcrDisr 0#4 .r1, .mcrVdfsr 0#4 .r1, .mcrVdisr 0#4 .r1, .mcrErrselr 0#4 .r1, .mcrErxaddr 0#4 .r1],
      i.isMcr = true) ∧
    (Instr.mcrDisr 0#4 .r1).group = .disr ∧ (∃ u, exec (.mcrDisr 0#4 .r1) guest = .next u) ∧
    (Instr.mcrVdfsr 0#4 .r1).group = .vdfsr ∧ (∃ u, exec (.mcrVdfsr 0#4 .r1) (start .el2) = .next u) ∧
    (Instr.mcrVdisr 0#4 .r1).group = .vdisr ∧ (∃ u, exec (.mcrVdisr 0#4 .r1) (start .el2) = .next u) ∧
    (Instr.mcrErrselr 0#4 .r1).group = .err ∧ (Instr.mcrErrselr 0#4 .r1).isErxWrite = false ∧
    (∃ u, exec (.mcrErrselr 0#4 .r1) guest = .next u) ∧
    (Instr.mcrErxaddr 0#4 .r1).isErxWrite = true ∧ (∃ u, exec (.mcrErxaddr 0#4 .r1) guest = .next u) :=
  ⟨by decide, by decide, ⟨_, rfl⟩, by decide, ⟨_, rfl⟩, by decide, ⟨_, rfl⟩, by decide, by decide, ⟨_, rfl⟩, by decide,
    ⟨_, rfl⟩⟩

/-- EL1, EL2 and EL3. -/
theorem witness_DisrEncodingReachesDisr :
    guest.disrOpen = true ∧ (start .el2).disrOpen = true ∧ State.reset.disrOpen = true := by decide

theorem witness_DisrEncodingRedirectedToVdisr :
    ({ guest with ctx := { guest.ctx with hcrAMO := true } } : State).disrRedirected = true ∧
    ({ guest64 with ctx := { guest64.ctx with isHCRXEL2Enabled := true, hcrxEL2TMEA := true } } : State).disrRedirected
      = true := by decide

theorem witness_DisrEncodingReadsZeroUnderEA :
    ({ guest with ctx := { guest.ctx with scrEA := true } } : State).disrRazWi = true ∧
    ({ guest64 with ctx := { guest64.ctx with el := .el2, scrEL3EA := true } } : State).disrRazWi = true := by decide

theorem witness_DisrEncodingTrappedByT12 :
    let a := { guest64 with ctx := { guest64.ctx with hstrEL2T12 := true } }
    let b := { guest with ctx := { guest.ctx with hstrT12 := true } }
    (Instr.mcrDisr 0#4 .r1).group = .disr ∧ a.present .ras = true ∧ a.ctx.el = .el1 ∧ a.el2A64 = true ∧
    a.ctx.hstrEL2T12 = true ∧ b.present .ras = true ∧ b.ctx.el = .el1 ∧ b.el2A32 = true ∧ b.ctx.hstrT12 = true := by decide

theorem witness_HiddenDisrIsNotLearned : ({ guest with ctx := { guest.ctx with scrEA := true } } : State).disrOpen = false := by
  decide

theorem witness_HiddenVdisrIsNotLearned : guest.virtOpen = false ∧ guest.disrRedirected = false := by decide

/-- EL2, and EL3 with SCR.NS == 1. -/
theorem witness_VdfsrReadsAndWrites :
    (start .el2).virtOpen = true ∧ ({ start .el3 with ctx := { quiet .el3 with scrNS := true } } : State).virtOpen = true := by
  decide

theorem witness_VdisrReadsAndWrites :
    (start .el2).virtOpen = true ∧ ({ start .el3 with ctx := { quiet .el3 with scrNS := true } } : State).virtOpen = true := by
  decide

theorem witness_VirtRegistersAreClosedToEL1 :
    guest.present .ras = true ∧ (Instr.mrcVdfsr 0#4 .r0).group = .vdfsr ∧ guest.ctx.el = .el1 ∧
    (Instr.mrcVdisr 0#4 .r0).group = .vdisr ∧ (start .el3).present .ras = true ∧ (start .el3).ctx.el = .el3 ∧
    (start .el3).ctx.scrNS = false := by decide

theorem witness_EsbRecordsTheDeferralsRaised :
    guest.impl.featRAS = true ∧ ({ guest with impl := { Config.resetImpl with featRAS := false } } : State).impl.featRAS = false := by
  decide

theorem witness_PhysicalSyndromeLayouts :
    (start .el2).ctx.el = .el2 ∧ guest.ctx.el ≠ .el2 ∧ guest.ctx.ttbcrEAE = false ∧
    ({ quiet .el3 with ttbcrEAE := true } : Context).el ≠ .el2 ∧
    ({ quiet .el3 with ttbcrEAE := true } : Context).ttbcrEAE = true := by decide

theorem witness_VirtualDeferralWritesVdisr :
    let s := { guest with esb := { physical := none, virtual := true } }
    s.impl.featRAS = true ∧ s.esb = { physical := none, virtual := true } ∧ s.impl.haveEL2 = true ∧ s.ctx.el = .el1 := by
  decide

/-- At EL2: an ESB that defers (A32), an MCR DISR that EL3's control makes ignored and an ESB that defers nothing, and the
read of DISR (T32). -/
theorem witness_EsbWriteOfDisrIsObservedLater :
    let e0 : EsbChoice := { physical := some syn8, virtual := false }
    let off : EsbChoice := { physical := none, virtual := false }
    let ea : Context := { quiet .el2 with scrEL3EA := true }
    let mid : List StepInput := [{ ctx := ea, esb := off, kind := .a32 0xEE0C1F31#32 },
      { ctx := quiet .el2, esb := off, kind := .t32 0xF3AF#16 0x8010#16 }]
    let s : State := { start .el2 with impl := Config.resetImpl, inputs :=
      { ctx := quiet .el2, esb := e0, kind := .a32 0xE320F010#32 } ::
        (mid ++ { ctx := quiet .el2, esb := off, kind := .t32 0xEE1C#16 0x0F31#16 } :: []) }
    (StepKind.a32 0xE320F010#32).instr = some (.esb 0b1110#4) ∧
    (StepKind.t32 0xEE1C#16 0x0F31#16).instr = some (.mrcDisr 0b1110#4 .r0) ∧
    s.impl.featRAS = true ∧ s.impl.hasEsbSyncSError = true ∧ e0.physical = some syn8 ∧
    (∀ inp ∈ mid, s.inputWritesDisr inp = false) ∧ ({ s with ctx := quiet .el2 } : State).disrOpen = true ∧
    ∃ u, runSteps (mid.length + 1) s = .next u :=
  ⟨by decide, by decide, by decide, by decide, by decide, by decide, by decide, _, rfl⟩

/-- At EL1: an ESB that defers, an MCR VDISR that is UNDEFINED there, and each of the two reads of VDISR. -/
theorem witness_EsbWriteOfVdisrIsObservedLater :
    let e0 : EsbChoice := { physical := none, virtual := true }
    let off : EsbChoice := { physical := none, virtual := false }
    let c1 : Context := { quiet .el1 with el2Enabled := true, hcrEL2AMO := true }
    let mid := queue .el1 [.a32 0xEE8C1F31#32]
    let s (c : Context) (k : StepKind) : State := { start .el1 with inputs :=
      { ctx := quiet .el1, esb := e0, kind := .t32 0xF3AF#16 0x8010#16 } :: (mid ++ { ctx := c, esb := off, kind := k } :: []) }
    (StepKind.t32 0xF3AF#16 0x8010#16).instr = some (.esb 0b1110#4) ∧
    ((StepKind.a32 0xEE1C0F31#32).instr = some (.mrcDisr 0b1110#4 .r0) ∧
      ({ start .el1 with ctx := c1 } : State).disrRedirected = true) ∧
    ((StepKind.t32 0xEE9C#16 0x0F31#16).instr = some (.mrcVdisr 0b1110#4 .r0) ∧
      ({ start .el1 with ctx := quiet .el2 } : State).virtOpen = true) ∧
    (start .el1).impl.featRAS = true ∧ (start .el1).impl.haveEL2 = true ∧ (quiet .el1).el = .el1 ∧ e0.virtual = true ∧
    (∀ inp ∈ mid, (start .el1).inputWritesVdisr inp = false) ∧
    (∃ u, runSteps (mid.length + 1) (s c1 (.a32 0xEE1C0F31#32)) = .next u) ∧
    (∃ u, runSteps (mid.length + 1) (s (quiet .el2) (.t32 0xEE9C#16 0x0F31#16)) = .next u) :=
  ⟨by decide, by decide, by decide, by decide, by decide, by decide, by decide, by decide, ⟨_, rfl⟩, ⟨_, rfl⟩⟩

/-- Admissible at EL1, not at EL2. -/
theorem witness_VirtualSErrorTakenReportsVdfsr :
    let s (el : EL) : State := { start el with inputs := queue el [.virtualSErrorTaken] }
    (s .el1).inputs = { ctx := quiet .el1, esb := { physical := none, virtual := false }, kind := .virtualSErrorTaken } :: [] ∧
    (s .el2).inputs = { ctx := quiet .el2, esb := { physical := none, virtual := false }, kind := .virtualSErrorTaken } :: [] ∧
    (s .el1).impl.haveEL2 = true := by decide

/-- Under readback; a record below NUM exists. -/
theorem witness_WarmResetDrawsTheNamedFields :
    let s : State := { start .el2 with
      impl := { params with res0Storage := .readback }, inputs := queue .el2 [.warmReset] }
    s.inputs = { ctx := quiet .el2, esb := { physical := none, virtual := false }, kind := .warmReset } :: [] ∧
    s.impl.res0Storage = .readback ∧ 3 < s.impl.num.toNat := by decide

/-- Record NUM - 1 exists, record NUM does not. -/
theorem witness_NodeWritesOneRecordRegister :
    let s (n : Nat) : State := { start .el2 with inputs := queue .el2 [.nodeWritesRecord n .fr 1#64] }
    (s 3).inputs = { ctx := quiet .el2, esb := { physical := none, virtual := false },
                     kind := .nodeWritesRecord 3 .fr 1#64 } :: [] ∧
    (s 3).recordsComplete ∧ 3 < (s 3).impl.num.toNat ∧
    (s 4).inputs = { ctx := quiet .el2, esb := { physical := none, virtual := false },
                     kind := .nodeWritesRecord 4 .fr 1#64 } :: [] ∧
    (s 4).recordsComplete ∧ (s 4).impl.num.toNat ≤ 4 := by decide

theorem witness_BoundaryHasNoEffect :
    ({ start .el2 with inputs := queue .el2 [.boundary] } : State).inputs
      = { ctx := quiet .el2, esb := { physical := none, virtual := false }, kind := .boundary } :: [] := by decide

/-- A state for each clause: no feature, EL0, EL1 with and without a trap, EL2, EL3 with SCR.NS 0 and 1. -/
theorem witness_VirtAccessesFollowTheListing :
    (Instr.mcrVdfsr 0#4 .r1).group = .vdfsr ∧ (Instr.mrcVdisr 0#4 .r1).group = .vdisr ∧
    ¬(({ params with featRAS := false } : Impl).featRAS = true ∧ params.featAA32EL1 = true) ∧
    params.featRAS = true ∧ params.featAA32EL1 = true ∧
    (∀ el ∈ [EL.el0, .el1, .el2, .el3], (start el).impl = params ∧ (start el).ctx.el = el) ∧
    ({ guest64 with ctx := { guest64.ctx with hstrEL2T5 := true } } : State).ctx.el = .el1 ∧
    (start .el3).ctx.scrNS = false ∧ ({ quiet .el3 with scrNS := true } : Context).scrNS = true := by decide

/-- A T32 access and the T32 ESB meet the two alternatives. -/
theorem witness_T32DecodesTheSameWords :
    decodeT32 0xEE15#16 0x0F13#16 = .ok (.mrcErridr 0b1110#4 .r0) ∧
    decodeT32 0xF3AF#16 0x8010#16 = .ok (.esb 0b1110#4) := by decide

end Sys2Proof.Tests
end

namespace Sys2Proof.Laws

open Sys2Proof

/-! ### The decoder on the words it accepts (30_encoding.md R105, R106, R112) -/

/-- The Rt field of a transfer register names that register (30_encoding.md R104, R111). -/
@[simp] theorem reg_ofBits_bits (t : Reg) : Reg.ofBits t.bits = .ok t := by cases t <;> rfl

/-- No two rows of the opcode map have the same match value. -/
theorem accessRows_keys_nodup : (accessRows.map Prod.fst).Nodup := by simp [accessRows]

/-- The hint word of ESB is no row of the opcode map under the row mask. -/
theorem accessRows_key_ne_esbMatch : ∀ key ∈ accessRows.map Prod.fst, key ≠ esbMatch &&& accessMask := by
  simp [accessRows, esbMatch, accessMask]

/-- The search of the opcode map by match value finds the row that has it. -/
theorem accessRows_find?_of_mem {row : Word × (Cond → Reg → Instr)} (hrow : row ∈ accessRows) :
    accessRows.find? (fun r => r.1 = row.1) = some row := by
  cases hfind : accessRows.find? (fun r => r.1 = row.1) with
  | none => exact absurd (decide_eq_true rfl) (List.find?_eq_none.1 hfind row hrow)
  | some found =>
    have hkey : found.1 = row.1 := by simpa using List.find?_some hfind
    rw [List.inj_on_of_nodup_map accessRows_keys_nodup (List.mem_of_find?_eq_some hfind) hrow hkey]

/-- A word of the opcode map is not the hint word of ESB. -/
theorem hint_ne_of_mem_accessRows {w : Word} {row : Word × (Cond → Reg → Instr)} (hrow : row ∈ accessRows)
    (hkey : row.1 = w &&& accessMask) : w &&& hintMask ≠ esbMatch := by
  intro hesb
  have hmasks : hintMask &&& accessMask = accessMask := by decide
  refine accessRows_key_ne_esbMatch row.1 (List.mem_map_of_mem hrow) ?_
  rw [hkey, ← hesb, BitVec.and_assoc, hmasks]

/-- The decoder on a word of the opcode map: the row's constructor on the transfer register, or why that is refused
(30_encoding.md R105, R111). -/
theorem decodeA32_of_mem_accessRows {w : Word} {row : Word × (Cond → Reg → Instr)}
    (hcond : w.extractLsb' 28 4 ≠ 0b1111#4) (hrow : row ∈ accessRows) (hkey : row.1 = w &&& accessMask) :
    decodeA32 w = (Reg.ofBits (w.extractLsb' 12 4)).map (row.2 (w.extractLsb' 28 4)) := by
  have hfind := accessRows_find?_of_mem hrow
  rw [hkey] at hfind
  simp only [decodeA32, if_neg hcond, if_neg (hint_ne_of_mem_accessRows hrow hkey), hfind]
  cases Reg.ofBits (w.extractLsb' 12 4) <;> rfl

/-- The decoder on the hint word of ESB (30_encoding.md R112). -/
theorem decodeA32_of_esbMatch {w : Word} (hcond : w.extractLsb' 28 4 ≠ 0b1111#4) (hesb : w &&& hintMask = esbMatch) :
    decodeA32 w = .ok (.esb (w.extractLsb' 28 4)) := by
  simp only [decodeA32, if_neg hcond, if_pos hesb]

/-! ### The decoder reads back the encoder -/

/-- The family `EncodesRow`, for every instruction. -/
theorem encodesRow (i : Instr) : EncodesRow.Statement i := by
  cases i with
  | mrcDisr c rt => exact EncodesRow.mrcDisr c rt
  | mcrDisr c rt => exact EncodesRow.mcrDisr c rt
  | mrcErridr c rt => exact EncodesRow.mrcErridr c rt
  | mrcErrselr c rt => exact EncodesRow.mrcErrselr c rt
  | mcrErrselr c rt => exact EncodesRow.mcrErrselr c rt
  | mrcErxaddr c rt => exact EncodesRow.mrcErxaddr c rt
  | mcrErxaddr c rt => exact EncodesRow.mcrErxaddr c rt
  | mrcErxaddr2 c rt => exact EncodesRow.mrcErxaddr2 c rt
  | mcrErxaddr2 c rt => exact EncodesRow.mcrErxaddr2 c rt
  | mrcErxctlr c rt => exact EncodesRow.mrcErxctlr c rt
  | mcrErxctlr c rt => exact EncodesRow.mcrErxctlr c rt
  | mrcErxctlr2 c rt => exact EncodesRow.mrcErxctlr2 c rt
  | mcrErxctlr2 c rt => exact EncodesRow.mcrErxctlr2 c rt
  | mrcErxfr c rt => exact EncodesRow.mrcErxfr c rt
  | mrcErxfr2 c rt => exact EncodesRow.mrcErxfr2 c rt
  | mrcErxmisc0 c rt => exact EncodesRow.mrcErxmisc0 c rt
  | mcrErxmisc0 c rt => exact EncodesRow.mcrErxmisc0 c rt
  | mrcErxmisc1 c rt => exact EncodesRow.mrcErxmisc1 c rt
  | mcrErxmisc1 c rt => exact EncodesRow.mcrErxmisc1 c rt
  | mrcErxmisc2 c rt => exact EncodesRow.mrcErxmisc2 c rt
  | mcrErxmisc2 c rt => exact EncodesRow.mcrErxmisc2 c rt
  | mrcErxmisc3 c rt => exact EncodesRow.mrcErxmisc3 c rt
  | mcrErxmisc3 c rt => exact EncodesRow.mcrErxmisc3 c rt
  | mrcErxmisc4 c rt => exact EncodesRow.mrcErxmisc4 c rt
  | mcrErxmisc4 c rt => exact EncodesRow.mcrErxmisc4 c rt
  | mrcErxmisc5 c rt => exact EncodesRow.mrcErxmisc5 c rt
  | mcrErxmisc5 c rt => exact EncodesRow.mcrErxmisc5 c rt
  | mrcErxmisc6 c rt => exact EncodesRow.mrcErxmisc6 c rt
  | mcrErxmisc6 c rt => exact EncodesRow.mcrErxmisc6 c rt
  | mrcErxmisc7 c rt => exact EncodesRow.mrcErxmisc7 c rt
  | mcrErxmisc7 c rt => exact EncodesRow.mcrErxmisc7 c rt
  | mrcErxstatus c rt => exact EncodesRow.mrcErxstatus c rt
  | mcrErxstatus c rt => exact EncodesRow.mcrErxstatus c rt
  | mrcVdfsr c rt => exact EncodesRow.mrcVdfsr c rt
  | mcrVdfsr c rt => exact EncodesRow.mcrVdfsr c rt
  | mrcVdisr c rt => exact EncodesRow.mrcVdisr c rt
  | mcrVdisr c rt => exact EncodesRow.mcrVdisr c rt
  | esb c => exact EncodesRow.esb c

/-- ESB is the one instruction without a transfer register. -/
theorem eq_esb_of_rt_eq_none {i : Instr} (h : i.rt = none) : i = .esb i.cond := by
  cases i with
  | esb c => rfl
  | _ => cases h

/-- A well-formed instruction is read back from its word (30_encoding.md R101, R105, R106). -/
theorem decodeA32_encode {i : Instr} (hwf : i.wf = true) : decodeA32 (encode i) = .ok i := by
  obtain ⟨hcond, haccess, hhint⟩ := encodesRow i
  have hne : (encode i).extractLsb' 28 4 ≠ 0b1111#4 := by simpa [hcond, Instr.wf] using hwf
  cases hrt : i.rt with
  | none => rw [decodeA32_of_esbMatch hne (hhint hrt), hcond, ← eq_esb_of_rt_eq_none hrt]
  | some t =>
    obtain ⟨hbits, -, row, hrow, hkey, hinstr⟩ := haccess t hrt
    rw [decodeA32_of_mem_accessRows hne hrow hkey, hbits, hcond, reg_ofBits_bits, Except.map, hinstr]

end Sys2Proof.Laws

namespace Sys2Proof.Machine

open Sys2Proof Sys2Proof.Laws

/-! ### The queue of step inputs and the step that takes from it (00_scope.md R9; log 1) -/

/-- A step takes the head of the queue and runs it. -/
theorem step_of_inputs_cons {s : State} {inp : StepInput} {rest : List StepInput} (hq : s.inputs = inp :: rest) :
    step s = runKind inp.kind (s.takeInput inp rest) := by
  simp only [step, hq]

/-- A step with nothing to take (log 24). -/
theorem step_of_inputs_nil {s : State} (hq : s.inputs = []) : step s = .fault .noInput := by
  simp only [step, hq]

/-- An A32 word that decodes runs as its instruction. -/
theorem runKind_a32_of_ok {w : Word} {i : Instr} (hd : decodeA32 w = .ok i) (s : State) :
    runKind (.a32 w) s = exec i s := by
  simp only [runKind, hd, execDecoded]

/-- An A32 word that does not decode is refused with the decoder's reason (30_encoding.md R107). -/
theorem runKind_a32_of_error {w : Word} {e : DecodeError} (hd : decodeA32 w = .error e) (s : State) :
    runKind (.a32 w) s = .refused (.undecodable e) := by
  simp only [runKind, hd, execDecoded]

/-- T32 halfwords that decode run as their instruction. -/
theorem runKind_t32_of_ok {hw1 hw2 : BitVec 16} {i : Instr} (hd : decodeT32 hw1 hw2 = .ok i) (s : State) :
    runKind (.t32 hw1 hw2) s = exec i s := by
  simp only [runKind, hd, execDecoded]

/-- T32 halfwords that do not decode are refused with the decoder's reason (30_encoding.md R107). -/
theorem runKind_t32_of_error {hw1 hw2 : BitVec 16} {e : DecodeError} (hd : decodeT32 hw1 hw2 = .error e) (s : State) :
    runKind (.t32 hw1 hw2) s = .refused (.undecodable e) := by
  simp only [runKind, hd, execDecoded]

/-- A step placed at the head of the queue is the next to run, in the state it was placed in. -/
@[simp] theorem step_placeInput (s : State) (k : StepKind) : step (s.placeInput k) = runKind k s := rfl

/-- The word placed by `withFetchWord 32` is the whole word. -/
@[simp] theorem State.withFetchWord_toNat (s : State) (w : Word) : s.withFetchWord 32 w.toNat = s.placeInput (.a32 w) := by
  rw [State.withFetchWord, Nat.mod_eq_of_lt w.isLt, BitVec.ofNat_toNat, BitVec.setWidth_eq]

/-- Settles O8: the placed word is decoded back to the instruction it encodes. -/
theorem stepRunsThePlacedWord : Obligations.StepRunsThePlacedWord := by
  intro i s hwf
  rw [State.withFetchWord_toNat, step_placeInput, runKind_a32_of_ok (decodeA32_encode hwf)]

/-- Settles O7: the head of the queue is taken and runs as the instruction it decodes to. -/
theorem stepRunsTheDecodedInstruction : Obligations.StepRunsTheDecodedInstruction := by
  intro s c e rest i
  constructor
  · intro w hq hd
    exact (step_of_inputs_cons hq).trans (runKind_a32_of_ok hd _)
  · intro hw1 hw2 hq hd
    exact (step_of_inputs_cons hq).trans (runKind_t32_of_ok hd _)

/-- Settles O9: the queue is empty, or its head is refused by the decoder. -/
theorem stepStopsWithoutAnInstruction : Obligations.StepStopsWithoutAnInstruction := by
  refine ⟨fun s hq => step_of_inputs_nil hq, ?_, ?_⟩
  · intro s inp rest w e hq hk hd
    rw [step_of_inputs_cons hq, hk, runKind_a32_of_error hd]
  · intro s inp rest hw1 hw2 e hq hk hd
    rw [step_of_inputs_cons hq, hk, runKind_t32_of_error hd]

/-! ### The register file (10_state.md R46) -/

/-- A written register reads what was written. -/
@[simp] theorem Gpr.read_write_same (g : Gpr) (t : Reg) (v : Word) : (g.write t v).read t = v := by
  cases t <;> rfl

/-- A register that is not the one written keeps its value: two different registers are two different fields. -/
theorem Gpr.read_write_of_ne (g : Gpr) {t u : Reg} (v : Word) (hne : u ≠ t) : (g.write t v).read u = g.read u := by
  cases t <;> cases u <;> trivial

/-- Settles O37: the register read is the one written, or another. -/
theorem registerFileReadAfterWrite : Obligations.RegisterFileReadAfterWrite := by
  intro g t u v
  split
  next heq => rw [heq, Gpr.read_write_same]
  next hne => exact g.read_write_of_ne v hne

end Sys2Proof.Machine

namespace Sys2Proof.Machine

open Sys2Proof

/-! ### The guarded accesses that are no window (42_errid_errsel.md R160 to R162; 46_vdfsr_vdisr.md R230 to R233) -/

section
variable (c : Cond) (t : Reg) (s : State)

theorem exec_mrcErridr : exec (.mrcErridr c t) s =
    guarded (errReadCheck .ras s) (fun s => (s.writeGpr t (zext32 s.impl.num)).finish) s := rfl

theorem exec_mrcErrselr : exec (.mrcErrselr c t) s =
    guarded (errReadCheck .ras s) (fun s =>
      if s.errselrUndefined then s.raise .undefined
      else if s.outOfRange then (s.writeGpr t (s.errselrRes0 ++ s.nextUnknown16)).drawn.finish
      else (s.writeGpr t (s.errselrRes0 ++ s.sel)).finish) s := rfl

theorem exec_mcrErrselr : exec (.mcrErrselr c t) s =
    guarded (errWriteCheck .ras s) (fun s =>
      if s.errselrUndefined then s.raise .undefined else (s.writeErrselr (s.readGpr t)).finish) s := rfl

theorem exec_mrcVdfsr : exec (.mrcVdfsr c t) s =
    guarded (vdfsrCheck s) (fun s => (s.writeGpr t s.vdfsr).finish) s := rfl

theorem exec_mcrVdfsr : exec (.mcrVdfsr c t) s =
    guarded (vdfsrCheck s) (fun s => (s.writeVdfsr (s.readGpr t)).finish) s := rfl

theorem exec_mrcVdisr : exec (.mrcVdisr c t) s =
    guarded (vdisrCheck s) (fun s => (s.writeGpr t s.vdisr).finish) s := rfl

theorem exec_mcrVdisr : exec (.mcrVdisr c t) s =
    guarded (vdisrCheck s) (fun s => (s.writeVdisr (s.readGpr t)).finish) s := rfl

end

/-! ### What an instruction can do, said once

Over any path of any instruction the next state is one of the forms below; the forms carry which instruction can take
them, so that what a step keeps is a case split over the writers and not over 38 arms. -/

/-- The next states an instruction can answer (20_memory.md R85; 41_disr.md R151; 47_esb_indirect.md R255). -/
inductive InstrEffect (i : Instr) (s : State) : State → Prop where
  /-- nothing but the report: an outcome raised, an ignored write, an access that is a NOP -/
  | report (r : StepResult) : InstrEffect i s { s with result := r }
  /-- an MRC gives R[t] a value, and may draw one -/
  | transfer (t : Reg) (v : Word) (d : Nat) (hmrc : i.isMrc = true) (hrt : i.rt = some t) :
      InstrEffect i s { s with gpr := s.gpr.write t v, draws := d, result := .done }
  /-- MCR DISR reaches DISR -/
  | toDisr (v : Word) (hgroup : i.group = .disr) (hmcr : i.isMcr = true) :
      InstrEffect i s { (s.writeDisr v) with result := .done }
  /-- MCR DISR is redirected, or MCR VDISR -/
  | toVdisr (v : Word) (hgroup : i.group = .disr ∨ i.group = .vdisr) (hmcr : i.isMcr = true) :
      InstrEffect i s { (s.writeVdisr v) with result := .done }
  /-- MCR VDFSR -/
  | toVdfsr (v : Word) (hgroup : i.group = .vdfsr) (hmcr : i.isMcr = true) :
      InstrEffect i s { (s.writeVdfsr v) with result := .done }
  /-- MCR ERRSELR -/
  | toErrselr (v : Word) (hgroup : i.group = .err) (hmcr : i.isMcr = true) (hwindow : i.isErxWrite = false) :
      InstrEffect i s { (s.writeErrselr v) with result := .done }
  /-- an MCR through a window; FR and the upper half of STATUS have no write window (10_state.md R37) -/
  | toWindow (k : RecReg) (h : Half) (v : Word) (d : Nat) (hwindow : i.isErxWrite = true) (hfr : k ≠ .fr)
      (hstatus : k = .status → h = .lo) :
      InstrEffect i s { (({ s with draws := d } : State).writeHalf s.windowRecord k h v) with result := .done }
  /-- an ESB makes the deferrals raised -/
  | deferral (hgroup : i.group = .esb) : InstrEffect i s { s.esbPhysicalPart.esbVirtualPart with result := .done }

/-- A guarded access has the effect of the access, or reports. -/
theorem InstrEffect.of_guarded {i : Instr} {check : Option Exc} {access : State → Res} {s u : State}
    (h : guarded check access s = .next u) (haccess : access s = .next u → InstrEffect i s u) : InstrEffect i s u := by
  obtain ⟨e, -, rfl⟩ | ⟨-, h⟩ := guarded_cases h
  · exact .report _
  · exact haccess h

/-- A guarded read of a register that draws nothing. -/
theorem InstrEffect.of_guarded_read {i : Instr} {check : Option Exc} {value : State → Word} {t : Reg} {s u : State}
    (hmrc : i.isMrc = true) (hrt : i.rt = some t)
    (h : guarded check (fun s => (s.writeGpr t (value s)).finish) s = .next u) : InstrEffect i s u := by
  refine .of_guarded h fun h => ?_
  cases h
  exact .transfer t _ s.draws hmrc hrt

/-- A read through a window (40_access_common.md R126). -/
theorem InstrEffect.of_erxRead {i : Instr} {k : RecReg} {h : Half} {t : Reg} {s u : State} (hmrc : i.isMrc = true)
    (hrt : i.rt = some t) (hx : erxRead k h t s = .next u) : InstrEffect i s u := by
  obtain ⟨v, d, rfl⟩ | rfl | rfl := erxRead_cases hx
  · exact .transfer t v d hmrc hrt
  · exact .report _
  · exact .report _

/-- A write through a window (40_access_common.md R127). -/
theorem InstrEffect.of_erxWrite {i : Instr} {k : RecReg} {h : Half} {t : Reg} {s u : State}
    (hwindow : i.isErxWrite = true) (hfr : k ≠ .fr) (hstatus : k = .status → h = .lo)
    (hx : erxWrite k h t s = .next u) : InstrEffect i s u := by
  obtain ⟨d, rfl⟩ | rfl | rfl := erxWrite_cases hx
  · exact .toWindow k h _ d hwindow hfr hstatus
  · exact .report _
  · exact .report _

/-- MRC DISR, over the paths of its listing (41_disr.md R150). -/
theorem InstrEffect.of_mrcDisr {c : Cond} {t : Reg} {s u : State} (h : execMrcDisr c t s = .next u) :
    InstrEffect (.mrcDisr c t) s u := by
  unfold execMrcDisr at h
  split at h <;> cases h
  · exact .report _
  all_goals exact .transfer t _ s.draws rfl rfl

/-- MCR DISR, over the paths of its listing (41_disr.md R151). -/
theorem InstrEffect.of_mcrDisr {c : Cond} {t : Reg} {s u : State} (h : execMcrDisr c t s = .next u) :
    InstrEffect (.mcrDisr c t) s u := by
  unfold execMcrDisr at h
  split at h <;> cases h
  · exact .report _
  · exact .toVdisr _ (.inl rfl) rfl
  · exact .report _
  · exact .toDisr _ rfl rfl

/-- MRC ERRSELR: Undefined, an UNKNOWN SEL, or SEL (42_errid_errsel.md R161). -/
theorem InstrEffect.of_mrcErrselr {c : Cond} {t : Reg} {s u : State} (h : exec (.mrcErrselr c t) s = .next u) :
    InstrEffect (.mrcErrselr c t) s u := by
  rw [exec_mrcErrselr] at h
  refine .of_guarded h fun h => ?_
  split at h
  · cases h
    exact .report _
  split at h <;> cases h
  · exact .transfer t _ (s.draws + 1) rfl rfl
  · exact .transfer t _ s.draws rfl rfl

/-- MCR ERRSELR: Undefined, or a write of SEL (42_errid_errsel.md R162). -/
theorem InstrEffect.of_mcrErrselr {c : Cond} {t : Reg} {s u : State} (h : exec (.mcrErrselr c t) s = .next u) :
    InstrEffect (.mcrErrselr c t) s u := by
  rw [exec_mcrErrselr] at h
  refine .of_guarded h fun h => ?_
  split at h <;> cases h
  · exact .report _
  · exact .toErrselr _ rfl rfl rfl

/-- ESB (47_esb_indirect.md R250; 30_encoding.md R112). -/
theorem InstrEffect.of_esb {c : Cond} {s u : State} (h : execEsb c s = .next u) : InstrEffect (.esb c) s u := by
  unfold execEsb at h
  split at h <;> cases h
  · exact .deferral rfl
  · exact .report _

/-- Every next state of every instruction has one of the forms of `InstrEffect`. -/
theorem exec_effect {i : Instr} {s u : State} (h : exec i s = .next u) : InstrEffect i s u := by
  obtain ⟨k, hf, t, hgroup, -, hmcr, hrt, hexec⟩ | ⟨k, hf, t, -, hwindow, -, hfr, hstatus, hexec⟩ |
    ⟨c, t, rfl | rfl⟩ | ⟨c, t, rfl | rfl | rfl⟩ | ⟨c, t, rfl | rfl | rfl | rfl⟩ | ⟨c, rfl⟩ := exec_shapes i
  · rw [hexec] at h
    exact .of_guarded h (.of_erxRead (by simp [Instr.isMrc, hgroup, hmcr]) hrt)
  · rw [hexec] at h
    exact .of_guarded h (.of_erxWrite hwindow hfr hstatus)
  · exact .of_mrcDisr h
  · exact .of_mcrDisr h
  · rw [exec_mrcErridr] at h
    exact .of_guarded_read rfl rfl h
  · exact .of_mrcErrselr h
  · exact .of_mcrErrselr h
  · rw [exec_mrcVdfsr] at h
    exact .of_guarded_read rfl rfl h
  · rw [exec_mcrVdfsr] at h
    refine .of_guarded h fun h => ?_
    cases h
    exact .toVdfsr _ rfl rfl
  · rw [exec_mrcVdisr] at h
    exact .of_guarded_read rfl rfl h
  · rw [exec_mcrVdisr] at h
    refine .of_guarded h fun h => ?_
    cases h
    exact .toVdisr _ (.inr rfl) rfl
  · exact .of_esb h

/-! ### What a step can do, said once (00_scope.md R9) -/

/-- The next states a kind of step can answer in the state its input was taken in. -/
inductive StepEffect (k : StepKind) (s : State) : State → Prop where
  /-- an instruction, in A32 or T32 -/
  | instr {i : Instr} {u : State} (hinstr : k.instr = some i) (heffect : InstrEffect i s u) : StepEffect k s u
  /-- nothing but the report: a virtual SError taken, a boundary -/
  | report (r : StepResult) : StepEffect k s { s with result := r }
  /-- a node replaces a register of a record there is (10_state.md R49) -/
  | node (n : Nat) (r : RecReg) (v : DWord) (hkind : k = .nodeWritesRecord n r v) :
      StepEffect k s { (s.writeRecReg n r v) with result := .done }
  /-- a Warm reset (70_reset_and_hazards.md R301) -/
  | reset {u : State} (hkind : k = .warmReset) (hreset : warmReset s = .next u) : StepEffect k s u

/-- Every next state of every kind of step has one of the forms of `StepEffect`. -/
theorem runKind_effect {k : StepKind} {s u : State} (h : runKind k s = .next u) : StepEffect k s u := by
  obtain ⟨i, hinstr, h⟩ | ⟨-, h⟩ | ⟨n, r, v, hkind, h⟩ | ⟨hkind, h⟩ | ⟨-, h⟩ := runKind_cases h
  · exact .instr hinstr (exec_effect h)
  · unfold virtualSErrorTaken at h
    split at h <;> cases h
    exact .report _
  · unfold nodeWritesRecord at h
    split at h <;> cases h
    exact .node n r v hkind
  · exact .reset hkind h
  · cases h
    exact .report _

/-- A step that goes on has the effect of the kind at the head of the queue. -/
theorem step_effect {s t : State} {inp : StepInput} {rest : List StepInput} (hq : s.inputs = inp :: rest)
    (h : step s = .next t) : StepEffect inp.kind (s.takeInput inp rest) t :=
  runKind_effect (step_of_inputs_cons hq ▸ h)

/-- A step that goes on took an entry of the queue. -/
theorem step_takes_input {s t : State} (h : step s = .next t) :
    ∃ inp rest, s.inputs = inp :: rest ∧ StepEffect inp.kind (s.takeInput inp rest) t := by
  obtain ⟨inp, rest, hq, hrun⟩ := step_cases h
  exact ⟨inp, rest, hq, runKind_effect hrun⟩

/-! ### What no step changes (10_state.md R20(c)) -/

/-- No instruction changes the implementation, the context, the environment's choice or the queue. -/
theorem InstrEffect.constants {i : Instr} {s u : State} (h : InstrEffect i s u) :
    u.impl = s.impl ∧ u.ctx = s.ctx ∧ u.esb = s.esb ∧ u.inputs = s.inputs := by
  cases h with
  | toWindow => simp
  | deferral => simp
  | _ => exact ⟨rfl, rfl, rfl, rfl⟩

/-- No step changes them. -/
theorem StepEffect.constants {k : StepKind} {s u : State} (h : StepEffect k s u) :
    u.impl = s.impl ∧ u.ctx = s.ctx ∧ u.esb = s.esb ∧ u.inputs = s.inputs := by
  cases h with
  | instr _ heffect => exact heffect.constants
  | reset _ hreset =>
    obtain ⟨-, himpl, hctx, hesb, hinputs, -⟩ := warmReset_frame hreset
    exact ⟨himpl, hctx, hesb, hinputs⟩
  | _ => exact ⟨rfl, rfl, rfl, rfl⟩

/-- Settles O12: what is current after a step is what its entry of the queue supplied. -/
theorem stepKeepsTheImplementation : Obligations.StepKeepsTheImplementation := by
  intro s t h
  obtain ⟨inp, rest, hq, heffect⟩ := step_takes_input h
  obtain ⟨himpl, hctx, hesb, hinputs⟩ := heffect.constants
  exact ⟨himpl, inp, by rw [hq, hinputs, State.takeInput_inputs], hctx, hesb⟩

/-! ### The writers of each piece of state (10_state.md R20; 47_esb_indirect.md R255(b)) -/

section
variable {k : StepKind} {s u : State}

/-- DISR is kept by all but MCR DISR, ESB and Warm reset. -/
theorem StepEffect.keeps_disr (h : StepEffect k s u) (hk : k.mayWriteDisr = false) : u.disr = s.disr := by
  cases h with
  | instr hinstr heffect =>
    cases heffect with
    | toDisr v hgroup hmcr => simp [StepKind.mayWriteDisr, hinstr, hgroup, hmcr] at hk
    | deferral hgroup => simp [StepKind.mayWriteDisr, hinstr, hgroup] at hk
    | toWindow => simp
    | _ => rfl
  | reset hkind => simp [StepKind.mayWriteDisr, hkind] at hk
  | _ => rfl

/-- VDISR is kept by all but MCR DISR, MCR VDISR, ESB and Warm reset. -/
theorem StepEffect.keeps_vdisr (h : StepEffect k s u) (hk : k.mayWriteVdisr = false) : u.vdisr = s.vdisr := by
  cases h with
  | instr hinstr heffect =>
    cases heffect with
    | toVdisr v hgroup hmcr => obtain h | h := hgroup <;> simp [StepKind.mayWriteVdisr, hinstr, h, hmcr] at hk
    | deferral hgroup => simp [StepKind.mayWriteVdisr, hinstr, hgroup] at hk
    | toWindow => simp
    | _ => rfl
  | reset hkind => simp [StepKind.mayWriteVdisr, hkind] at hk
  | _ => rfl

/-- VDFSR is kept by all but MCR VDFSR and Warm reset. -/
theorem StepEffect.keeps_vdfsr (h : StepEffect k s u) (hk : k.mayWriteVdfsr = false) : u.vdfsr = s.vdfsr := by
  cases h with
  | instr hinstr heffect =>
    cases heffect with
    | toVdfsr v hgroup hmcr => simp [StepKind.mayWriteVdfsr, hinstr, hgroup, hmcr] at hk
    | toWindow => simp
    | deferral => simp
    | _ => rfl
  | reset hkind => simp [StepKind.mayWriteVdfsr, hkind] at hk
  | _ => rfl

/-- ERRSELR is kept by all but MCR ERRSELR and Warm reset. -/
theorem StepEffect.keeps_errselr (h : StepEffect k s u) (hk : k.mayWriteSel = false) :
    u.sel = s.sel ∧ u.errselrHi = s.errselrHi := by
  cases h with
  | instr hinstr heffect =>
    cases heffect with
    | toErrselr v hgroup hmcr hwindow => simp [StepKind.mayWriteSel, hinstr, hgroup, hmcr, hwindow] at hk
    | toWindow => simp
    | deferral => simp
    | _ => exact ⟨rfl, rfl⟩
  | reset hkind => simp [StepKind.mayWriteSel, hkind] at hk
  | _ => exact ⟨rfl, rfl⟩

/-- An instruction keeps the records unless it is an MCR through a window. -/
theorem InstrEffect.keeps_recs {i : Instr} (h : InstrEffect i s u) (hi : i.isErxWrite = false) : u.recs = s.recs := by
  cases h with
  | toWindow k h v d hwindow => simp [hi] at hwindow
  | deferral => simp
  | _ => rfl

/-- The kind of an instruction may write the records when the instruction is an MCR through a window. -/
theorem StepKind.mayWriteRecords_of_instr {i : Instr} (hinstr : k.instr = some i) :
    k.mayWriteRecords = i.isErxWrite := by
  cases k with
  | a32 w => exact (congrArg (Option.any Instr.isErxWrite) hinstr).trans (Option.any_some ..)
  | t32 hw1 hw2 => exact (congrArg (Option.any Instr.isErxWrite) hinstr).trans (Option.any_some ..)
  | _ => cases hinstr

/-- The records are kept by all but an MCR through a window, a node and Warm reset. -/
theorem StepEffect.keeps_recs (h : StepEffect k s u) (hk : k.mayWriteRecords = false) : u.recs = s.recs := by
  cases h with
  | instr hinstr heffect => exact heffect.keeps_recs (StepKind.mayWriteRecords_of_instr hinstr ▸ hk)
  | report => rfl
  | node n r v hkind => cases hkind; cases hk
  | reset hkind => cases hkind; cases hk

/-- The general registers are kept by all but an MRC (20_memory.md R85). -/
theorem StepEffect.keeps_gpr (h : StepEffect k s u) (hk : k.mayWriteGpr = false) : u.gpr = s.gpr := by
  cases h with
  | instr hinstr heffect =>
    cases heffect with
    | transfer t v d hmrc => simp [StepKind.mayWriteGpr, hinstr, hmrc] at hk
    | toWindow => simp
    | deferral => simp
    | _ => rfl
  | reset _ hreset => exact (warmReset_frame hreset).1
  | _ => rfl

end

/-- Settles O13: each piece of state by the case split over its writers. -/
theorem onlyTheirWritersChangeTheRegisters : Obligations.OnlyTheirWritersChangeTheRegisters := by
  intro s t inp rest hq h
  have heffect := step_effect hq h
  exact ⟨heffect.keeps_disr, heffect.keeps_vdisr, heffect.keeps_vdfsr, heffect.keeps_errselr, heffect.keeps_recs,
    heffect.keeps_gpr⟩

/-! ### The syndrome words an ESB records (47_esb_indirect.md R251, R252) -/

/-- Layout (a) has named bits of DISR only (10_state.md R25, R43). -/
theorem hypSyndrome_reserved (aet : BitVec 2) (ea : BitVec 1) (dfsc : BitVec 6) :
    hypSyndrome aet ea dfsc &&& ~~~0x8000DE3F#32 = 0 := by
  unfold hypSyndrome
  ext i hi
  simp only [BitVec.getElem_and, BitVec.getElem_append]
  interval_cases i <;> simp

/-- Layout (b) has bits named in both DISR and VDISR only (10_state.md R26, R41, R43). -/
theorem shortSyndrome_reserved (aet : BitVec 2) (ext : BitVec 1) (fs : BitVec 5) :
    shortSyndrome aet ext fs &&& ~~~0x8000D63F#32 = 0 := by
  unfold shortSyndrome
  ext i hi
  simp only [BitVec.getElem_and, BitVec.getElem_append]
  interval_cases i <;> simp

/-- Layout (c) has bits named in both DISR and VDISR only (10_state.md R27, R42, R43). -/
theorem longSyndrome_reserved (aet : BitVec 2) (ext : BitVec 1) (status : BitVec 6) :
    longSyndrome aet ext status &&& ~~~0x8000D63F#32 = 0 := by
  unfold longSyndrome
  ext i hi
  simp only [BitVec.getElem_and, BitVec.getElem_append]
  interval_cases i <;> simp

/-- A word with bits named in VDISR only has bits named in DISR only: DISR names bit 11 besides (10_state.md R43). -/
theorem reserved_disr_of_reserved_vdisr {w : Word} (h : w &&& ~~~0x8000D63F#32 = 0) : w &&& ~~~0x8000DE3F#32 = 0 := by
  have hmask : ~~~0x8000DE3F#32 = ~~~0x8000D63F#32 &&& ~~~0x8000DE3F#32 := by decide
  rw [hmask, ← BitVec.and_assoc, h]
  exact BitVec.zero_and

/-- A physical deferral that may be raised records named bits of DISR only (47_esb_indirect.md R251, R256(a)). -/
theorem State.physicalSyndrome_reserved {s : State} (hadm : s.physicalAdmissible = true) (syn : Syndrome) :
    s.physicalSyndrome syn &&& ~~~disrFieldMask s.impl = 0 := by
  have hmask : disrFieldMask s.impl = 0x8000DE3F#32 := if_pos hadm
  rw [hmask]
  unfold State.physicalSyndrome
  split
  · exact hypSyndrome_reserved ..
  split
  · exact reserved_disr_of_reserved_vdisr (longSyndrome_reserved ..)
  · exact reserved_disr_of_reserved_vdisr (shortSyndrome_reserved ..)

/-- A virtual deferral that may be raised records named bits of VDISR only (47_esb_indirect.md R252, R256(b)). -/
theorem State.virtualSyndrome_reserved {s : State} (hadm : s.virtualAdmissible = true) :
    s.virtualSyndrome &&& ~~~vdisrFieldMask s.impl = 0 := by
  have hmask : vdisrFieldMask s.impl = 0x8000D63F#32 := if_pos (Bool.and_eq_true_iff.1 hadm).1
  rw [hmask]
  unfold State.virtualSyndrome
  split
  · exact longSyndrome_reserved ..
  · exact shortSyndrome_reserved ..

/-- A is set in layout (a) (10_state.md R25). -/
theorem hypSyndrome_a (aet : BitVec 2) (ea : BitVec 1) (dfsc : BitVec 6) :
    (hypSyndrome aet ea dfsc).getLsbD 31 = true := by
  simp only [hypSyndrome, BitVec.getLsbD_append]
  simp

/-- A is set in layout (b) (10_state.md R26, R41). -/
theorem shortSyndrome_a (aet : BitVec 2) (ext : BitVec 1) (fs : BitVec 5) :
    (shortSyndrome aet ext fs).getLsbD 31 = true := by
  simp only [shortSyndrome, BitVec.getLsbD_append]
  simp

/-- A is set in layout (c) (10_state.md R27, R42). -/
theorem longSyndrome_a (aet : BitVec 2) (ext : BitVec 1) (status : BitVec 6) :
    (longSyndrome aet ext status).getLsbD 31 = true := by
  simp only [longSyndrome, BitVec.getLsbD_append]
  simp

/-- A is set by a physical deferral (47_esb_indirect.md R251). -/
theorem State.physicalSyndrome_a (s : State) (syn : Syndrome) : (s.physicalSyndrome syn).getLsbD 31 = true := by
  unfold State.physicalSyndrome
  split
  · exact hypSyndrome_a ..
  split
  · exact longSyndrome_a ..
  · exact shortSyndrome_a ..

/-- A is set by a virtual deferral (47_esb_indirect.md R252). -/
theorem State.virtualSyndrome_a (s : State) : s.virtualSyndrome.getLsbD 31 = true := by
  unfold State.virtualSyndrome
  split
  · exact longSyndrome_a ..
  · exact shortSyndrome_a ..

/-! ### The invariant (10_state.md R32; 40_access_common.md R131) -/

/-- The physical part of an ESB leaves the reserved bits of DISR zero. -/
theorem State.esbPhysicalPart_reserved {s : State} (h : s.disr &&& ~~~disrFieldMask s.impl = 0) :
    s.esbPhysicalPart.disr &&& ~~~disrFieldMask s.impl = 0 := by
  obtain hkeep | ⟨hadm, syn, -, hsyn⟩ := s.esbPhysicalPart_disr
  · rwa [hkeep]
  · rw [hsyn]
    exact s.physicalSyndrome_reserved hadm syn

/-- The virtual part of an ESB leaves the reserved bits of VDISR zero. -/
theorem State.esbVirtualPart_reserved {s : State} (h : s.vdisr &&& ~~~vdisrFieldMask s.impl = 0) :
    s.esbVirtualPart.vdisr &&& ~~~vdisrFieldMask s.impl = 0 := by
  obtain hkeep | ⟨hadm, hsyn⟩ := s.esbVirtualPart_vdisr
  · rwa [hkeep]
  · rw [hsyn]
    exact s.virtualSyndrome_reserved hadm

/-- Every instruction keeps the number of records. -/
theorem InstrEffect.keeps_recordsComplete {i : Instr} {s u : State} (h : InstrEffect i s u)
    (hs : s.recordsComplete) : u.recordsComplete := by
  cases h with
  | toWindow k h v d => exact State.writeHalf_recordsComplete (s := { s with draws := d }) hs _ k h v
  | deferral => simpa [State.recordsComplete] using hs
  | _ => exact hs

/-- The reserved bits of both deferral registers, over both parts of an ESB. -/
theorem State.esbParts_reserved {s : State} (hdisr : s.disr &&& ~~~disrFieldMask s.impl = 0)
    (hvdisr : s.vdisr &&& ~~~vdisrFieldMask s.impl = 0) :
    s.esbPhysicalPart.esbVirtualPart.disr &&& ~~~disrFieldMask s.impl = 0 ∧
      s.esbPhysicalPart.esbVirtualPart.vdisr &&& ~~~vdisrFieldMask s.impl = 0 := by
  constructor
  · rw [State.esbVirtualPart_disr]
    exact State.esbPhysicalPart_reserved hdisr
  · have hpart := State.esbVirtualPart_reserved (s := s.esbPhysicalPart) (by simpa using hvdisr)
    rwa [State.esbPhysicalPart_impl] at hpart

/-- Every instruction keeps the reserved bits zero: a direct write masks them, an ESB records named bits only. -/
theorem InstrEffect.keeps_reservedZero {i : Instr} {s u : State} (h : InstrEffect i s u)
    (hs : s.reservedZero) : u.reservedZero := by
  intro hwired
  rw [h.constants.1] at hwired ⊢
  obtain ⟨hdisr, hvdisr, hvdfsr, herrselr⟩ := hs hwired
  cases h with
  | toDisr v => exact ⟨storedValue_reserved hwired _ v, hvdisr, hvdfsr, herrselr⟩
  | toVdisr v => exact ⟨hdisr, storedValue_reserved hwired _ v, hvdfsr, herrselr⟩
  | toVdfsr v => exact ⟨hdisr, hvdisr, storedValue_reserved hwired _ v, herrselr⟩
  | toErrselr v =>
    refine ⟨hdisr, hvdisr, hvdfsr, ?_⟩
    simpa [State.writeErrselr_errselrHi, hwired] using herrselr
  | toWindow => simp [hdisr, hvdisr, hvdfsr, herrselr]
  | deferral =>
    obtain ⟨hdisr', hvdisr'⟩ := State.esbParts_reserved hdisr hvdisr
    exact ⟨hdisr', hvdisr', by simpa using hvdfsr, by simpa using herrselr⟩
  | _ => exact ⟨hdisr, hvdisr, hvdfsr, herrselr⟩

/-- A Warm reset draws a state with its reserved bits as the storage says (70_reset_and_hazards.md R301). -/
theorem warmReset_reservedZero {s u : State} (h : warmReset s = .next u) : u.reservedZero := by
  cases h
  intro hwired
  refine ⟨resetWord_reserved hwired _ _, resetWord_reserved hwired _ _, resetWord_reserved hwired _ _, ?_⟩
  simp only at hwired
  simp [hwired]

/-- Every step keeps the invariant. -/
theorem StepEffect.keeps_inv {k : StepKind} {s u : State} (h : StepEffect k s u) (hs : s.Inv) : u.Inv := by
  obtain ⟨hrecs, hres⟩ := hs
  cases h with
  | instr _ heffect => exact ⟨heffect.keeps_recordsComplete hrecs, heffect.keeps_reservedZero hres⟩
  | report => exact ⟨hrecs, hres⟩
  | node n r v => exact ⟨State.writeRecReg_recordsComplete hrecs n r v, hres⟩
  | reset _ hreset =>
    obtain ⟨-, -, -, -, -, hcomplete⟩ := warmReset_frame hreset
    exact ⟨hcomplete, warmReset_reservedZero hreset⟩

/-- Settles O11: taking an input keeps the invariant, and so does every kind of step. -/
theorem stepKeepsInvariant : Obligations.StepKeepsInvariant := by
  intro s t hinv h
  obtain ⟨inp, rest, -, heffect⟩ := step_takes_input h
  exact heffect.keeps_inv hinv

/-- Settles O10: four records, and registers that are zero. -/
theorem resetHasInvariant : Obligations.ResetHasInvariant :=
  ⟨State.reset_recordsComplete, fun _ => by decide⟩

/-! ### A recorded deferral stays recorded (47_esb_indirect.md R255(b)) -/

/-- An ESB keeps A of DISR: it keeps DISR or records a deferral there. -/
theorem State.esbPhysicalPart_a {s : State} (h : s.disr.getLsbD 31 = true) :
    s.esbPhysicalPart.disr.getLsbD 31 = true := by
  obtain hkeep | ⟨-, syn, -, hsyn⟩ := s.esbPhysicalPart_disr
  · rwa [hkeep]
  · rw [hsyn]
    exact s.physicalSyndrome_a syn

/-- An ESB keeps A of VDISR: it keeps VDISR or records a deferral there. -/
theorem State.esbVirtualPart_a {s : State} (h : s.vdisr.getLsbD 31 = true) :
    s.esbVirtualPart.vdisr.getLsbD 31 = true := by
  obtain hkeep | ⟨-, hsyn⟩ := s.esbVirtualPart_vdisr
  · rwa [hkeep]
  · rw [hsyn]
    exact s.virtualSyndrome_a

/-- Settles O14: of the writers of DISR and of VDISR only an ESB is left, and it records A set. -/
theorem nothingClearsABitButADirectWriteOrReset : Obligations.NothingClearsABitButADirectWriteOrReset := by
  intro s t inp rest hq h hreset
  have heffect := step_effect hq h
  cases heffect with
  | instr hinstr heffect =>
    cases heffect with
    | toDisr v hgroup hmcr => exact ⟨fun hno => absurd ⟨hgroup, hmcr⟩ (hno _ hinstr), fun _ ha => ha⟩
    | toVdisr v hgroup hmcr => exact ⟨fun _ ha => ha, fun hno => absurd ⟨hgroup, hmcr⟩ (hno _ hinstr)⟩
    | toWindow => simp
    | deferral =>
      refine ⟨fun _ ha => ?_, fun _ ha => ?_⟩
      · simpa using State.esbPhysicalPart_a (s := s.takeInput inp rest) ha
      · exact State.esbVirtualPart_a (by simpa using ha)
    | _ => exact ⟨fun _ ha => ha, fun _ ha => ha⟩
  | reset hkind => exact absurd hkind hreset
  | _ => exact ⟨fun _ ha => ha, fun _ ha => ha⟩

/-! ### When the ERR checks fall through (40_access_common.md R122, R123) -/

/-- An arm of a listing is passed when its condition fails. -/
theorem arm_eq_none_iff {p : Prop} [Decidable p] {e : Exc} {rest : Option Exc} :
    (if p then some e else rest) = none ↔ ¬p ∧ rest = none := by
  split <;> simp [*]

/-- The read check falls through exactly when no cause of 60_exceptions.md R261 to R263 applies. -/
theorem errReadCheck_eq_none_iff (f : Feature) (s : State) : errReadCheck f s = none ↔ s.errOpen false f = true := by
  simp only [errReadCheck, arm_eq_none_iff, State.errOpen, Bool.and_eq_true, Bool.not_eq_true', Bool.not_eq_false]
  refine and_congr_right fun _ => ?_
  cases s.ctx.el with
  | el0 => simp
  | el1 =>
    simp only [arm_eq_none_iff, State.errTrapsToEL2A64, State.errTrapsToEL2A32, State.errControlEL3A64,
      State.errControlEL3A32]
    grind
  | el2 =>
    simp only [arm_eq_none_iff, State.errControlEL3A64, State.errControlEL3A32]
    grind
  | el3 =>
    simp only [arm_eq_none_iff]
    grind

/-- The write check falls through exactly when no cause of 60_exceptions.md R261 to R263 applies. -/
theorem errWriteCheck_eq_none_iff (f : Feature) (s : State) : errWriteCheck f s = none ↔ s.errOpen true f = true := by
  simp only [errWriteCheck, arm_eq_none_iff, State.errOpen, Bool.and_eq_true, Bool.not_eq_true', Bool.not_eq_false]
  refine and_congr_right fun _ => ?_
  cases s.ctx.el with
  | el0 => simp
  | el1 =>
    simp only [arm_eq_none_iff, State.errTrapsToEL2A64, State.errTrapsToEL2A32, State.errControlEL3A64,
      State.errControlEL3A32]
    cases s.el3A64 with
    | false => grind
    | true => grind
  | el2 =>
    simp only [arm_eq_none_iff, State.errControlEL3A64, State.errControlEL3A32]
    grind
  | el3 =>
    simp only [arm_eq_none_iff]
    grind

/-- A read of the ERR group that is open is performed. -/
theorem guarded_errReadCheck_of_open {f : Feature} {s : State} (hopen : s.errOpen false f = true)
    (access : State → Res) : guarded (errReadCheck f s) access s = access s := by
  rw [(errReadCheck_eq_none_iff f s).2 hopen, guarded_none]

/-- A write of the ERR group that is open is performed. -/
theorem guarded_errWriteCheck_of_open {f : Feature} {s : State} (hopen : s.errOpen true f = true)
    (access : State → Res) : guarded (errWriteCheck f s) access s = access s := by
  rw [(errWriteCheck_eq_none_iff f s).2 hopen, guarded_none]

/-! ### ERRSELR without records (10_state.md R31) -/

/-- Settles O28: both accesses test for records first thing once they are performed (D12). -/
theorem errselrUndefinedWithoutRecords : Obligations.ErrselrUndefinedWithoutRecords := by
  intro c t s hnum hoption
  have hundef : s.errselrUndefined = true := by simp [State.errselrUndefined, s.noRecords_iff.2 hnum, hoption]
  refine ⟨fun hopen => ?_, fun hopen => ?_⟩
  · rw [exec_mrcErrselr, guarded_errReadCheck_of_open hopen, if_pos hundef, State.raise_eq]
  · rw [exec_mcrErrselr, guarded_errWriteCheck_of_open hopen, if_pos hundef, State.raise_eq]

/-! ### The window map (10_state.md R33) -/

/-- Every window read is a guarded `ErxRead` of its half of its register. -/
theorem exec_windowRead {w : Window} (hw : w ∈ windowReads) (c : Cond) (t : Reg) (s : State) :
    exec (w.access c t) s = guarded (errReadCheck w.feature s) (erxRead w.reg w.half t) s := by
  fin_cases hw <;> rfl

/-- Every window write is a guarded `ErxWrite` of its half of its register. -/
theorem exec_windowWrite {w : Window} (hw : w ∈ windowWrites) (c : Cond) (t : Reg) (s : State) :
    exec (w.access c t) s = guarded (errWriteCheck w.feature s) (erxWrite w.reg w.half t) s := by
  fin_cases hw <;> rfl

/-- A window read that is open is performed. -/
theorem exec_windowRead_of_open {w : Window} (hw : w ∈ windowReads) {s : State} (hopen : s.errOpen false w.feature = true)
    (c : Cond) (t : Reg) : exec (w.access c t) s = erxRead w.reg w.half t s := by
  rw [exec_windowRead hw, guarded_errReadCheck_of_open hopen]

/-- A window write that is open is performed. -/
theorem exec_windowWrite_of_open {w : Window} (hw : w ∈ windowWrites) {s : State}
    (hopen : s.errOpen true w.feature = true) (c : Cond) (t : Reg) :
    exec (w.access c t) s = erxWrite w.reg w.half t s := by
  rw [exec_windowWrite hw, guarded_errWriteCheck_of_open hopen]

/-! ### `ErxRead` and `ErxWrite` by the value of SEL and the option (40_access_common.md R126, R127) -/

section
variable (k : RecReg) (h : Half) (t : Reg) {s : State}

/-- A read with a record selected. -/
theorem erxRead_of_lt (hsel : s.sel < s.impl.num) :
    erxRead k h t s = .next { s with gpr := s.gpr.write t (s.readHalf s.sel.toNat k h), result := .done } := by
  rw [erxRead, s.outOfRange_eq_false_iff.2 hsel]
  rfl

/-- A write with a record selected. -/
theorem erxWrite_of_lt (hsel : s.sel < s.impl.num) :
    erxWrite k h t s = .next { (s.writeHalf s.sel.toNat k h (s.gpr.read t)) with result := .done } := by
  rw [erxWrite, s.outOfRange_eq_false_iff.2 hsel]
  rfl

variable (hsel : s.impl.num ≤ s.sel)
include hsel

/-- A read out of range under `RAZ/WI`. -/
theorem erxRead_razWi (hopt : s.impl.erxOor = .razWi) :
    erxRead k h t s = .next { s with gpr := s.gpr.write t 0, result := .done } := by
  rw [erxRead, if_pos (s.outOfRange_iff.2 hsel), hopt]
  rfl

/-- A read out of range under `NOP`. -/
theorem erxRead_nop (hopt : s.impl.erxOor = .nop) : erxRead k h t s = .next { s with result := .done } := by
  rw [erxRead, if_pos (s.outOfRange_iff.2 hsel), hopt]
  rfl

/-- A read out of range under `UNDEFINED`. -/
theorem erxRead_undef (hopt : s.impl.erxOor = .undef) :
    erxRead k h t s = .next { s with result := .raised .undefined } := by
  rw [erxRead, if_pos (s.outOfRange_iff.2 hsel), hopt]
  rfl

/-- A read of an UNKNOWN record when there is none: the value is UNKNOWN (D14). -/
theorem erxRead_unknown_of_noRecords (hopt : s.impl.erxOor = .unknownRecord) (hnum : s.impl.num = 0) :
    erxRead k h t s =
      .next { s with gpr := s.gpr.write t (Config.unknown32 s.draws), draws := s.draws + 1, result := .done } := by
  rw [erxRead, if_pos (s.outOfRange_iff.2 hsel), hopt]
  exact if_pos (s.noRecords_iff.2 hnum)

/-- A read of an UNKNOWN record that is drawn. -/
theorem erxRead_unknown_of_records (hopt : s.impl.erxOor = .unknownRecord) (hnum : s.impl.num ≠ 0) :
    erxRead k h t s =
      .next { s with gpr := s.gpr.write t (s.readHalf s.nextUnknownRecord k h), draws := s.draws + 1, result := .done } := by
  rw [erxRead, if_pos (s.outOfRange_iff.2 hsel), hopt]
  exact if_neg (mt s.noRecords_iff.1 hnum)

/-- A write out of range is ignored under `RAZ/WI` and under `NOP`. -/
theorem erxWrite_ignored (hopt : s.impl.erxOor = .razWi ∨ s.impl.erxOor = .nop) :
    erxWrite k h t s = .next { s with result := .done } := by
  rw [erxWrite, if_pos (s.outOfRange_iff.2 hsel)]
  obtain hopt | hopt := hopt <;> rw [hopt] <;> rfl

/-- A write out of range under `UNDEFINED`. -/
theorem erxWrite_undef (hopt : s.impl.erxOor = .undef) :
    erxWrite k h t s = .next { s with result := .raised .undefined } := by
  rw [erxWrite, if_pos (s.outOfRange_iff.2 hsel), hopt]
  rfl

/-- A write to an UNKNOWN record when there is none (D14). -/
theorem erxWrite_unknown_of_noRecords (hopt : s.impl.erxOor = .unknownRecord) (hnum : s.impl.num = 0) :
    erxWrite k h t s = .next { s with result := .done } := by
  rw [erxWrite, if_pos (s.outOfRange_iff.2 hsel), hopt]
  exact if_pos (s.noRecords_iff.2 hnum)

/-- A write to an UNKNOWN record that is drawn. -/
theorem erxWrite_unknown_of_records (hopt : s.impl.erxOor = .unknownRecord) (hnum : s.impl.num ≠ 0) :
    erxWrite k h t s = .next { (s.drawn.writeHalf s.nextUnknownRecord k h (s.gpr.read t)) with result := .done } := by
  rw [erxWrite, if_pos (s.outOfRange_iff.2 hsel), hopt]
  exact if_neg (mt s.noRecords_iff.1 hnum)

/-- A write out of range changes nothing but the report, unless a record is drawn. -/
theorem erxWrite_reports (hopt : s.impl.erxOor ≠ .unknownRecord ∨ s.impl.num = 0) :
    ∃ r, erxWrite k h t s = .next { s with result := r } := by
  cases hoor : s.impl.erxOor with
  | unknownRecord =>
    exact ⟨_, erxWrite_unknown_of_noRecords k h t hsel hoor (hopt.resolve_left fun hne => hne hoor)⟩
  | razWi => exact ⟨_, erxWrite_ignored k h t hsel (.inl hoor)⟩
  | nop => exact ⟨_, erxWrite_ignored k h t hsel (.inr hoor)⟩
  | undef => exact ⟨_, erxWrite_undef k h t hsel hoor⟩

end

/-- Settles O32: the option decides, and a drawn record is below NUM. -/
theorem windowReadsOutOfRange : Obligations.WindowReadsOutOfRange := by
  intro w hw c t s hopen hsel
  rw [exec_windowRead_of_open hw hopen]
  exact ⟨erxRead_razWi w.reg w.half t hsel, erxRead_nop w.reg w.half t hsel, erxRead_undef w.reg w.half t hsel,
    erxRead_unknown_of_noRecords w.reg w.half t hsel, fun hopt hnum =>
      ⟨s.nextUnknownRecord, s.nextUnknownRecord_lt hnum, erxRead_unknown_of_records w.reg w.half t hsel hopt hnum⟩⟩

/-- Settles O33: the option decides, and a drawn record is below NUM. -/
theorem windowWritesOutOfRange : Obligations.WindowWritesOutOfRange := by
  intro w hw c t s hopen hsel
  rw [exec_windowWrite_of_open hw hopen]
  exact ⟨erxWrite_ignored w.reg w.half t hsel, erxWrite_undef w.reg w.half t hsel,
    erxWrite_unknown_of_noRecords w.reg w.half t hsel, fun hopt hnum =>
      ⟨s.nextUnknownRecord, s.nextUnknownRecord_lt hnum, erxWrite_unknown_of_records w.reg w.half t hsel hopt hnum⟩⟩

/-! ### Halves through a window (10_state.md R34, R36) -/

section
variable (s : State) {n : Nat} {k : RecReg}

/-- Only CTLR of a later record is all reserved bits (10_state.md R34). -/
theorem State.windowRes0_eq_false (hctlr : k = .ctlr → firstOfNode s.impl n = true) : s.windowRes0 n k = false := by
  by_cases hk : k = .ctlr
  · simp [State.windowRes0, hctlr hk]
  · simp [State.windowRes0, hk]

/-- CTLR of a later record is all reserved bits (10_state.md R34). -/
theorem State.windowRes0_ctlr (hfirst : firstOfNode s.impl n = false) : s.windowRes0 n .ctlr = true := by
  simp [State.windowRes0, hfirst]

/-- A read of a half that is implemented. -/
theorem State.readHalf_of_window (hctlr : k = .ctlr → firstOfNode s.impl n = true) (h : Half) :
    s.readHalf n k h = halfOf ((s.record n).get k) h := by
  rw [State.readHalf, s.windowRes0_eq_false hctlr]
  rfl

/-- A write of a half that is implemented (10_state.md R36, D8). -/
theorem State.writeHalf_of_window (hctlr : k = .ctlr → firstOfNode s.impl n = true) (h : Half) (v : Word) :
    s.writeHalf n k h v =
      (s.setHalf n k h (Config.errWriteEffect k h (halfOf ((s.record n).get k) h) v s.draws)).drawn := by
  rw [State.writeHalf, s.windowRes0_eq_false hctlr]
  rfl

/-- A read of a reserved control window (10_state.md R34; 40_access_common.md R131). -/
theorem State.readHalf_ctlr_reserved (hfirst : firstOfNode s.impl n = false) (h : Half) :
    s.readHalf n .ctlr h = if s.impl.res0Storage = .hardwired0 then 0 else halfOf (s.record n).ctlr h := by
  rw [State.readHalf, if_pos (s.windowRes0_ctlr hfirst)]
  cases s.impl.res0Storage <;> rfl

/-- A write of a reserved control window (10_state.md R34; 40_access_common.md R131). -/
theorem State.writeHalf_ctlr_reserved (hfirst : firstOfNode s.impl n = false) (h : Half) (v : Word) :
    s.writeHalf n .ctlr h v = if s.impl.res0Storage = .hardwired0 then s else s.setHalf n .ctlr h v := by
  rw [State.writeHalf, if_pos (s.windowRes0_ctlr hfirst)]
  cases s.impl.res0Storage <;> rfl

end

/-- Settles O29: a record is selected, and its half is implemented. -/
theorem windowReadsReachTheSelectedHalf : Obligations.WindowReadsReachTheSelectedHalf := by
  intro w hw c t s hopen hsel hctlr
  rw [exec_windowRead_of_open hw hopen, erxRead_of_lt w.reg w.half t hsel, s.readHalf_of_window hctlr]

/-- Settles O30: a record is selected, and its half is implemented. -/
theorem windowWritesChangeTheSelectedHalf : Obligations.WindowWritesChangeTheSelectedHalf := by
  intro w hw c t s hopen hsel hctlr
  rw [exec_windowWrite_of_open hw hopen, erxWrite_of_lt w.reg w.half t hsel, s.writeHalf_of_window hctlr]
  rfl

/-- A read of a control window of a later record. -/
theorem erxRead_ctlr_reserved (h : Half) (t : Reg) {s : State} (hsel : s.sel < s.impl.num)
    (hfirst : firstOfNode s.impl s.sel.toNat = false) :
    erxRead .ctlr h t s = .next { s with
      gpr := s.gpr.write t (if s.impl.res0Storage = .hardwired0 then 0 else halfOf (s.record s.sel.toNat).ctlr h),
      result := .done } := by
  rw [erxRead_of_lt .ctlr h t hsel, s.readHalf_ctlr_reserved hfirst]

/-- A write of a control window of a later record: the reserved bits store what is written, or nothing. -/
theorem erxWrite_ctlr_reserved (h : Half) (t : Reg) {s : State} (hsel : s.sel < s.impl.num)
    (hfirst : firstOfNode s.impl s.sel.toNat = false) :
    erxWrite .ctlr h t s = .next { s with
      recs := if s.impl.res0Storage = .hardwired0 then s.recs
        else s.recs.set s.sel.toNat { (s.record s.sel.toNat) with
          ctlr := withHalf (s.record s.sel.toNat).ctlr h (s.gpr.read t) },
      result := .done } := by
  rw [erxWrite_of_lt .ctlr h t hsel, s.writeHalf_ctlr_reserved hfirst]
  split <;> rfl

/-- Settles O34: a record is selected, and its control windows are reserved. -/
theorem ctlrWindowsOfALaterRecordAreReserved : Obligations.CtlrWindowsOfALaterRecordAreReserved := by
  intro c t s hsel hfirst
  refine ⟨fun hopen ih hih => ?_, fun hopen ih hih => ?_⟩
  · have hexec : exec ih.1 s = erxRead .ctlr ih.2 t s := by
      fin_cases hih <;> exact guarded_errReadCheck_of_open hopen _
    rw [hexec, erxRead_ctlr_reserved ih.2 t hsel hfirst]
  · have hexec : exec ih.1 s = erxWrite .ctlr ih.2 t s := by
      fin_cases hih <;> exact guarded_errWriteCheck_of_open hopen _
    rw [hexec, erxWrite_ctlr_reserved ih.2 t hsel hfirst]

/-- Settles O31: a write through a window reaches one half of one record, or only reports. -/
theorem windowWriteFrame : Obligations.WindowWriteFrame := by
  intro w hw c t s u hexec
  rw [exec_windowWrite hw] at hexec
  rw [← State.windowRecord_eq]
  obtain ⟨e, -, rfl⟩ | ⟨-, hwrite⟩ := guarded_cases hexec
  · exact ⟨rfl, fun _ _ _ _ => rfl, fun _ _ => rfl⟩
  refine ⟨?_, fun n k h hne => ?_, fun hsel hopt => ?_⟩
  · obtain ⟨d, rfl⟩ | rfl | rfl := erxWrite_cases hwrite
    · rw [State.writeHalf_frame]
    · rfl
    · rfl
  · obtain ⟨d, rfl⟩ | rfl | rfl := erxWrite_cases hwrite
    · exact State.writeHalf_other { s with draws := d } _ hne
    · rfl
    · rfl
  · obtain ⟨r, hreport⟩ := erxWrite_reports w.reg w.half t hsel hopt
    cases hwrite.symm.trans hreport
    rfl

/-! ### What no instruction writes in a record (10_state.md R37) -/

/-- The registers a window write leaves alone, in every record. -/
theorem State.writeHalf_recReg_of_ne (s : State) (n m : Nat) {k k' : RecReg} (h : Half) (v : Word) (hne : k' ≠ k) :
    (s.writeHalf n k h v).recReg m k' = s.recReg m k' := by
  have hset (w : Word) : (s.setHalf n k h w).recReg m k' = s.recReg m k' := by
    rw [State.setHalf, State.recReg_writeRecReg, if_neg fun ⟨_, _, heq⟩ => hne heq]
  obtain e | e | ⟨w, e⟩ := s.writeHalf_cases n k h v <;> rw [e]
  · exact hset v
  · exact hset w

/-- Settles O35: no window writes FR, and the one that writes STATUS writes its lower half. -/
theorem featureRegistersAndUpperStatusAreNotWritable :
    Obligations.FeatureRegistersAndUpperStatusAreNotWritable := by
  intro i s t n hexec
  have heffect := exec_effect hexec
  cases heffect with
  | toWindow k h v d _ hfr hstatus =>
    have hhalf : RecReg.status ≠ k ∨ Half.hi ≠ h := by
      by_cases hk : k = .status
      · exact .inr (by simp [hstatus hk])
      · exact .inl (Ne.symm hk)
    exact ⟨State.writeHalf_recReg_of_ne { s with draws := d } _ n h v (k' := .fr) hfr.symm,
      State.writeHalf_other { s with draws := d } (m := n) v (.inr hhalf)⟩
  | deferral => simp [State.record]
  | _ => exact ⟨rfl, rfl⟩

/-! ### A node (10_state.md R49(b), D16) -/

/-- Settles O56: the record is there, so its register is replaced, and no other. -/
theorem nodeWritesOneRecordRegister : Obligations.NodeWritesOneRecordRegister := by
  intro s c e rest n k v hq hcomplete
  rw [step_of_inputs_cons hq]
  refine ⟨fun hn => ⟨_, if_pos hn, rfl, fun m k' => ?_⟩, fun hn => if_neg (Nat.not_lt.2 hn)⟩
  refine (State.recReg_writeRecReg _ n m k k' v).trans ?_
  have hiff : (n = m ∧ m < s.recs.length ∧ k' = k) ↔ (m = n ∧ k' = k) := by
    rw [hcomplete]
    constructor
    · exact fun ⟨hnm, _, hk⟩ => ⟨hnm.symm, hk⟩
    · exact fun ⟨hmn, hk⟩ => ⟨hmn.symm, hmn ▸ hn, hk⟩
  exact if_congr hiff rfl rfl

/-! ### Halves of a record register (20_memory.md R82) -/

/-- The half that is written reads as written (10_state.md R36). -/
@[simp] theorem halfOf_withHalf_same (d : DWord) (h : Half) (v : Word) : halfOf (withHalf d h v) h = v := by
  cases h
  · exact BitVec.extractLsb'_append_eq_right
  · exact BitVec.extractLsb'_append_eq_left

/-- Settles O36: the half read is the one written, or the other. -/
theorem halvesOfARecordRegister : Obligations.HalvesOfARecordRegister := by
  intro d v
  refine ⟨?_, ?_, fun h h' => ?_⟩
  · exact (BitVec.setWidth_eq_extractLsb' (by decide)).symm
  · rfl
  · split
    next heq => rw [heq, halfOf_withHalf_same]
    next hne => exact halfOf_withHalf_of_ne d v hne

end Sys2Proof.Machine

namespace Sys2Proof.Machine

open Sys2Proof

/-! ### The instructions of a group (40_access_common.md R132) -/

/-- A write through a window is an MCR of the ERR group. -/
theorem Instr.group_isMcr_of_isErxWrite {i : Instr} (hwindow : i.isErxWrite = true) :
    i.group = .err ∧ i.isMcr = true := by
  obtain ⟨_, _, _, -, hno, -⟩ | ⟨_, _, _, hgroup, -, hmcr, -⟩ | ⟨c, t, rfl | rfl⟩ | ⟨c, t, rfl | rfl | rfl⟩ |
    ⟨c, t, rfl | rfl | rfl | rfl⟩ | ⟨c, rfl⟩ := exec_shapes i
  · simp [hno] at hwindow
  · exact ⟨hgroup, hmcr⟩
  all_goals cases hwindow

/-- A write through a window is in the ERR group. -/
theorem Instr.isErxWrite_eq_false_of_group_ne {i : Instr} (hgroup : i.group ≠ .err) : i.isErxWrite = false :=
  Bool.eq_false_iff.2 fun hwindow => hgroup (Instr.group_isMcr_of_isErxWrite hwindow).1

/-- An MRC is no MCR and no ESB. -/
theorem Instr.isMrc_iff {i : Instr} : i.isMrc = true ↔ i.isMcr = false ∧ i.group ≠ .esb := by
  simp [Instr.isMrc]

/-- An ESB is no MCR. -/
theorem Instr.isMcr_eq_false_of_group_esb {i : Instr} (hgroup : i.group = .esb) : i.isMcr = false := by
  cases i with
  | esb c => rfl
  | _ => cases hgroup

/-- MCR DISR is the MCR of its group. -/
theorem Instr.eq_mcrDisr {i : Instr} (hgroup : i.group = .disr) (hmcr : i.isMcr = true) : ∃ c t, i = .mcrDisr c t := by
  cases i with
  | mcrDisr c t => exact ⟨c, t, rfl⟩
  | mrcDisr => cases hmcr
  | _ => cases hgroup

/-- MCR VDISR is the MCR of its group. -/
theorem Instr.eq_mcrVdisr {i : Instr} (hgroup : i.group = .vdisr) (hmcr : i.isMcr = true) :
    ∃ c t, i = .mcrVdisr c t := by
  cases i with
  | mcrVdisr c t => exact ⟨c, t, rfl⟩
  | mrcVdisr => cases hmcr
  | _ => cases hgroup

/-- ESB is the only instruction of its group. -/
theorem Instr.eq_esb {i : Instr} (hgroup : i.group = .esb) : ∃ c, i = .esb c := by
  cases i with
  | esb c => exact ⟨c, rfl⟩
  | _ => cases hgroup

/-! ### Side effects of direct accesses (20_memory.md R85) -/

/-- Settles O38: of the effects of an instruction, an MRC can have the report and the transfer. -/
theorem mrcFrame : Obligations.MrcFrame := by
  intro i s u hmrc hexec
  obtain ⟨hmcr, hesb⟩ := Instr.isMrc_iff.1 hmrc
  have heffect := exec_effect hexec
  cases heffect with
  | report => exact ⟨rfl, fun _ _ => rfl⟩
  | transfer t v d _ hrt => exact ⟨rfl, fun t' hne => s.gpr.read_write_of_ne v fun heq => hne (heq ▸ hrt)⟩
  | toWindow k h v d hwindow => simp [(Instr.group_isMcr_of_isErxWrite hwindow).2] at hmcr
  | deferral hgroup => exact absurd hgroup hesb
  | toDisr _ _ hmcr' | toVdisr _ _ hmcr' | toVdfsr _ _ hmcr' | toErrselr _ _ hmcr' => simp [hmcr] at hmcr'

/-- Settles O39: each effect an MCR can have changes the fields of its own group, or only reports. -/
theorem mcrFrame : Obligations.McrFrame := by
  intro i s u hmcr hexec
  rw [← State.windowRecord_eq]
  have heffect := exec_effect hexec
  cases heffect with
  | report => exact ⟨fun _ => .inl rfl, fun _ => rfl, fun _ => rfl, fun _ _ => rfl, fun _ => ⟨rfl, fun _ _ => rfl⟩⟩
  | transfer t v d hmrc => simp [(Instr.isMrc_iff.1 hmrc).1] at hmcr
  | deferral hgroup => simp [Instr.isMcr_eq_false_of_group_esb hgroup] at hmcr
  | toDisr v hgroup =>
    have hno : i.isErxWrite = false := Instr.isErxWrite_eq_false_of_group_ne (by simp [hgroup])
    exact ⟨fun _ => .inl rfl, by simp [hgroup, hno]⟩
  | toVdisr v hgroup =>
    have hno : i.isErxWrite = false := Instr.isErxWrite_eq_false_of_group_ne (by obtain h | h := hgroup <;> simp [h])
    obtain hgroup | hgroup := hgroup
    · exact ⟨fun _ => .inr rfl, by simp [hgroup, hno]⟩
    · exact ⟨by simp [hgroup], by simp [hgroup], fun _ => rfl, by simp [hgroup, hno]⟩
  | toVdfsr v hgroup =>
    have hno : i.isErxWrite = false := Instr.isErxWrite_eq_false_of_group_ne (by simp [hgroup])
    exact ⟨by simp [hgroup], fun _ => rfl, by simp [hgroup, hno]⟩
  | toErrselr v hgroup _ hno =>
    exact ⟨by simp [hgroup], by simp [hgroup], by simp [hgroup], fun _ _ => rfl, by simp [hno]⟩
  | toWindow k h v d hwindow =>
    have hgroup := (Instr.group_isMcr_of_isErxWrite hwindow).1
    refine ⟨by simp [hgroup], by simp [hgroup], by simp [hgroup], by simp [hwindow], fun _ => ⟨?_, fun n hne => ?_⟩⟩
    · rw [State.writeHalf_frame]
    · exact State.writeHalf_record_of_ne { s with draws := d } k h v hne

/-! ### The paths of the DISR and VDISR encodings (41_disr.md R150; 40_access_common.md R125) -/

/-- The listing reaches DISR exactly when the table of causes says so. -/
theorem disrPath_eq_toDisr_iff (s : State) : disrPath s = .toDisr ↔ s.disrOpen = true := by
  simp only [disrPath, State.disrOpen, State.disrTrapped, State.el2RoutesSError]
  cases s.ctx.el <;> grind

/-- The listing reaches VDISR exactly when the table of causes says so. -/
theorem disrPath_eq_toVdisr_iff (s : State) : disrPath s = .toVdisr ↔ s.disrRedirected = true := by
  simp only [disrPath, State.disrRedirected, State.disrTrapped, State.el2RoutesSError]
  cases s.ctx.el <;> grind

/-- VirtCheck falls through at EL2, and at EL3 with SCR.NS == 1. -/
theorem virtCheck_eq_none_iff (hstrEL2 hstr : Bool) (s : State) :
    virtCheck hstrEL2 hstr s = none ↔ s.virtOpen = true := by
  simp only [virtCheck, arm_eq_none_iff, State.virtOpen]
  cases s.ctx.el with
  | el1 =>
    simp only [arm_eq_none_iff]
    simp
  | el3 =>
    simp only [arm_eq_none_iff]
    grind
  | _ => simp

/-- MRC DISR by its meaning (41_disr.md R150). -/
theorem exec_mrcDisr (c : Cond) (t : Reg) (s : State) : exec (.mrcDisr c t) s = execMrcDisr c t s := rfl

/-- MCR DISR by its meaning (41_disr.md R151). -/
theorem exec_mcrDisr (c : Cond) (t : Reg) (s : State) : exec (.mcrDisr c t) s = execMcrDisr c t s := rfl

/-- MRC DISR that reaches DISR (41_disr.md R150, arms D1.7, D2.3 and D3). -/
theorem exec_mrcDisr_of_open {s : State} (hopen : s.disrOpen = true) (c : Cond) (t : Reg) :
    exec (.mrcDisr c t) s = .next { s with gpr := s.gpr.write t s.disr, result := .done } := by
  rw [exec_mrcDisr, execMrcDisr, (disrPath_eq_toDisr_iff s).2 hopen]
  rfl

/-- MRC DISR that is redirected (41_disr.md R150, arms D1.3 and D1.4). -/
theorem exec_mrcDisr_of_redirected {s : State} (hredir : s.disrRedirected = true) (c : Cond) (t : Reg) :
    exec (.mrcDisr c t) s = .next { s with gpr := s.gpr.write t s.vdisr, result := .done } := by
  rw [exec_mrcDisr, execMrcDisr, (disrPath_eq_toVdisr_iff s).2 hredir]
  rfl

/-- MRC VDISR that is performed (46_vdfsr_vdisr.md R232). -/
theorem exec_mrcVdisr_of_open {s : State} (hopen : s.virtOpen = true) (c : Cond) (t : Reg) :
    exec (.mrcVdisr c t) s = .next { s with gpr := s.gpr.write t s.vdisr, result := .done } := by
  rw [exec_mrcVdisr, vdisrCheck, (virtCheck_eq_none_iff ..).2 hopen]
  rfl

/-! ### The accesses and the ESB that leave DISR or VDISR alone (41_disr.md R151; 47_esb_indirect.md R250, R256) -/

section
variable {c : Cond} {t : Reg} {s u : State}

/-- MCR DISR that does not reach DISR. -/
theorem exec_mcrDisr_keeps_disr (hclosed : s.disrOpen = false) (h : exec (.mcrDisr c t) s = .next u) :
    u.disr = s.disr := by
  rw [exec_mcrDisr, execMcrDisr] at h
  split at h
  case h_4 hpath => simp [(disrPath_eq_toDisr_iff s).1 hpath] at hclosed
  all_goals cases h; rfl

/-- MCR DISR that is not redirected. -/
theorem exec_mcrDisr_keeps_vdisr (hclosed : s.disrRedirected = false) (h : exec (.mcrDisr c t) s = .next u) :
    u.vdisr = s.vdisr := by
  rw [exec_mcrDisr, execMcrDisr] at h
  split at h
  case h_2 hpath => simp [(disrPath_eq_toVdisr_iff s).1 hpath] at hclosed
  all_goals cases h; rfl

/-- MCR VDISR that is not performed. -/
theorem exec_mcrVdisr_keeps_vdisr (hclosed : s.virtOpen = false) (h : exec (.mcrVdisr c t) s = .next u) :
    u.vdisr = s.vdisr := by
  rw [exec_mcrVdisr] at h
  obtain ⟨_, -, rfl⟩ | ⟨hcheck, -⟩ := guarded_cases h
  · rfl
  · simp [(virtCheck_eq_none_iff ..).1 hcheck] at hclosed

/-- ESB with the RAS Extension makes the deferrals raised (47_esb_indirect.md R250). -/
theorem exec_esb_of_ras (c : Cond) (hras : s.impl.featRAS = true) :
    exec (.esb c) s = .next { s.esbPhysicalPart.esbVirtualPart with result := .done } :=
  if_pos hras

/-- ESB without the RAS Extension (30_encoding.md R112). -/
theorem exec_esb_of_not_ras (c : Cond) (hras : s.impl.featRAS = false) :
    exec (.esb c) s = .next { s with result := .done } :=
  if_neg (by simp [hasFeature, hras])

/-- The physical part when a deferral is raised and admitted (47_esb_indirect.md R251, R256(a)). -/
theorem State.esbPhysicalPart_of_raised {syn : Syndrome} (hraised : s.esb.physical = some syn)
    (hadm : s.physicalAdmissible = true) : s.esbPhysicalPart = s.esbDefersPhysical syn := by
  simp only [State.esbPhysicalPart, hraised, hadm, if_true]

/-- The virtual part when a deferral is raised and admitted (47_esb_indirect.md R252, R256(b), (c)). -/
theorem State.esbVirtualPart_of_raised (hraised : s.esb.virtual = true) (hadm : s.virtualAdmissible = true) :
    s.esbVirtualPart = s.esbDefersVirtual := by
  simp only [State.esbVirtualPart, hraised, hadm, Bool.and_self, if_true]

/-- The virtual part when no deferral is both raised and admitted (47_esb_indirect.md R256(b), (c)). -/
theorem State.esbVirtualPart_of_not_raised (hno : s.virtualAdmissible = true → s.esb.virtual = false) :
    s.esbVirtualPart = s :=
  if_neg fun hboth => by
    obtain ⟨hraised, hadm⟩ := Bool.and_eq_true_iff.1 hboth
    simp [hno hadm] at hraised

/-- ESB that defers a physical SError leaves its syndrome in DISR (47_esb_indirect.md R251). -/
theorem exec_esb_disr {syn : Syndrome} (hras : s.impl.featRAS = true) (hraised : s.esb.physical = some syn)
    (hadm : s.physicalAdmissible = true) (h : exec (.esb c) s = .next u) : u.disr = s.physicalSyndrome syn := by
  cases (exec_esb_of_ras c hras).symm.trans h
  simp [State.esbPhysicalPart_of_raised hraised hadm, State.esbDefersPhysical]

/-- The physical part of an ESB does not change what the virtual part records. -/
theorem State.esbPhysicalPart_virtualSyndrome (s : State) : s.esbPhysicalPart.virtualSyndrome = s.virtualSyndrome := by
  rw [s.esbPhysicalPart_frame]
  rfl

/-- ESB that defers a virtual SError leaves its syndrome in VDISR (47_esb_indirect.md R252). -/
theorem exec_esb_vdisr (hras : s.impl.featRAS = true) (hraised : s.esb.virtual = true)
    (hadm : s.virtualAdmissible = true) (h : exec (.esb c) s = .next u) : u.vdisr = s.virtualSyndrome := by
  cases (exec_esb_of_ras c hras).symm.trans h
  have hpart : s.esbPhysicalPart.esbVirtualPart = s.esbPhysicalPart.esbDefersVirtual :=
    State.esbVirtualPart_of_raised (by simpa using hraised) (by simpa [State.virtualAdmissible] using hadm)
  simp only [hpart, State.esbDefersVirtual, s.esbPhysicalPart_virtualSyndrome]

/-- ESB that makes no physical deferral. -/
theorem exec_esb_keeps_disr
    (hno : s.impl.featRAS = true → s.physicalAdmissible = true → s.esb.physical = none)
    (h : exec (.esb c) s = .next u) : u.disr = s.disr := by
  cases hras : s.impl.featRAS with
  | false =>
    cases (exec_esb_of_not_ras c hras).symm.trans h
    rfl
  | true =>
    cases (exec_esb_of_ras c hras).symm.trans h
    obtain hkeep | ⟨hadm, syn, hraised, -⟩ := s.esbPhysicalPart_disr
    · simpa using hkeep
    · simp [hno hras hadm] at hraised

/-- ESB that makes no virtual deferral. -/
theorem exec_esb_keeps_vdisr
    (hno : s.impl.featRAS = true → s.virtualAdmissible = true → s.esb.virtual = false)
    (h : exec (.esb c) s = .next u) : u.vdisr = s.vdisr := by
  cases hras : s.impl.featRAS with
  | false =>
    cases (exec_esb_of_not_ras c hras).symm.trans h
    rfl
  | true =>
    cases (exec_esb_of_ras c hras).symm.trans h
    have hpart : s.esbPhysicalPart.esbVirtualPart = s.esbPhysicalPart :=
      State.esbVirtualPart_of_not_raised (by simpa [State.virtualAdmissible] using hno hras)
    simp [hpart]

end

/-! ### Steps that do not write DISR or VDISR (20_memory.md R88, R89) -/

/-- An answer of the decoder that is an instruction. -/
theorem eq_ok_of_toOption_eq_some {d : Except DecodeError Instr} {i : Instr} (h : d.toOption = some i) : d = .ok i := by
  cases d with
  | ok j => exact congrArg Except.ok (Option.some.inj h)
  | error e => cases h

/-- A kind of step that holds an instruction runs it. -/
theorem runKind_of_instr {k : StepKind} {i : Instr} (hinstr : k.instr = some i) (s : State) :
    runKind k s = exec i s := by
  cases k with
  | a32 w => exact runKind_a32_of_ok (eq_ok_of_toOption_eq_some hinstr) s
  | t32 hw1 hw2 => exact runKind_t32_of_ok (eq_ok_of_toOption_eq_some hinstr) s
  | _ => cases hinstr

/-- A step whose input holds an instruction runs it. -/
theorem step_of_instr {s : State} {inp : StepInput} {rest : List StepInput} {i : Instr}
    (hq : s.inputs = inp :: rest) (hinstr : inp.kind.instr = some i) : step s = exec i (s.takeInput inp rest) :=
  (step_of_inputs_cons hq).trans (runKind_of_instr hinstr _)

section
variable {s u : State}

/-- Whether the DISR encoding reaches DISR depends on the implementation and the context supplied
(41_disr.md R150). -/
theorem State.disrOpen_takeInput (himpl : u.impl = s.impl) (inp : StepInput) (rest : List StepInput) :
    (u.takeInput inp rest).disrOpen = ({ s with ctx := inp.ctx } : State).disrOpen := by
  cases s; cases u; cases himpl; rfl

/-- Whether the DISR encoding is redirected depends on the implementation and the context supplied
(41_disr.md R150). -/
theorem State.disrRedirected_takeInput (himpl : u.impl = s.impl) (inp : StepInput) (rest : List StepInput) :
    (u.takeInput inp rest).disrRedirected = ({ s with ctx := inp.ctx } : State).disrRedirected := by
  cases s; cases u; cases himpl; rfl

/-- Whether VDISR is open to its own encoding depends on the implementation and the context supplied
(40_access_common.md R125). -/
theorem State.virtOpen_takeInput (himpl : u.impl = s.impl) (inp : StepInput) (rest : List StepInput) :
    (u.takeInput inp rest).virtOpen = ({ s with ctx := inp.ctx } : State).virtOpen := by
  cases s; cases u; cases himpl; rfl

/-- Whether an input writes DISR depends on the implementation. -/
theorem State.inputWritesDisr_congr (himpl : u.impl = s.impl) : u.inputWritesDisr = s.inputWritesDisr := by
  cases s; cases u; cases himpl; rfl

/-- Whether an input writes VDISR depends on the implementation. -/
theorem State.inputWritesVdisr_congr (himpl : u.impl = s.impl) : u.inputWritesVdisr = s.inputWritesVdisr := by
  cases s; cases u; cases himpl; rfl

end

section
variable {s t : State} {inp : StepInput} {rest : List StepInput}

/-- An input whose step does not write DISR: of the writers it may hold an MCR DISR that does not reach DISR, or an ESB
that makes no physical deferral. -/
theorem State.inputWritesDisr_eq_false {i : Instr} (hinstr : inp.kind.instr = some i)
    (hw : s.inputWritesDisr inp = false) :
    (i.group = .disr → i.isMcr = true → (s.takeInput inp rest).disrOpen = false) ∧
      (i.group = .esb → s.impl.featRAS = true → s.impl.hasEsbSyncSError = true → inp.esb.physical = none) := by
  rw [State.disrOpen_takeInput (s := s) rfl]
  simp only [State.inputWritesDisr, hinstr, Option.any_some] at hw
  grind [Option.isSome_eq_false_iff, Option.isNone_iff_eq_none]

/-- An input whose step does not write VDISR: of the writers it may hold an MCR DISR that is not redirected, an MCR VDISR
that is not performed, or an ESB that makes no virtual deferral. -/
theorem State.inputWritesVdisr_eq_false {i : Instr} (hinstr : inp.kind.instr = some i)
    (hw : s.inputWritesVdisr inp = false) :
    (i.group = .disr → i.isMcr = true → (s.takeInput inp rest).disrRedirected = false) ∧
      (i.group = .vdisr → i.isMcr = true → (s.takeInput inp rest).virtOpen = false) ∧
      (i.group = .esb → s.impl.featRAS = true → (s.takeInput inp rest).virtualAdmissible = true →
        inp.esb.virtual = false) := by
  rw [State.disrRedirected_takeInput (s := s) rfl, State.virtOpen_takeInput (s := s) rfl]
  simp only [State.inputWritesVdisr, hinstr, Option.any_some] at hw
  simp only [State.virtualAdmissible, State.takeInput_impl, State.takeInput_ctx]
  grind

/-- DISR is kept by a step whose input does not write it. -/
theorem step_keeps_disr (hq : s.inputs = inp :: rest) (h : step s = .next t) (hw : s.inputWritesDisr inp = false) :
    t.disr = s.disr := by
  have heffect := step_effect hq h
  cases heffect with
  | instr hinstr heffect =>
    rw [step_of_instr hq hinstr] at h
    obtain ⟨hmcrDisr, hesb⟩ := State.inputWritesDisr_eq_false (rest := rest) hinstr hw
    cases heffect with
    | toDisr v hgroup hmcr =>
      obtain ⟨c, t, rfl⟩ := Instr.eq_mcrDisr hgroup hmcr
      exact exec_mcrDisr_keeps_disr (s := s.takeInput inp rest) (hmcrDisr hgroup hmcr) h
    | deferral hgroup =>
      obtain ⟨c, rfl⟩ := Instr.eq_esb hgroup
      exact exec_esb_keeps_disr (s := s.takeInput inp rest) (hesb hgroup) h
    | toWindow => simp
    | _ => rfl
  | reset hkind => simp [State.inputWritesDisr, hkind] at hw
  | _ => rfl

/-- VDISR is kept by a step whose input does not write it. -/
theorem step_keeps_vdisr (hq : s.inputs = inp :: rest) (h : step s = .next t) (hw : s.inputWritesVdisr inp = false) :
    t.vdisr = s.vdisr := by
  have heffect := step_effect hq h
  cases heffect with
  | instr hinstr heffect =>
    rw [step_of_instr hq hinstr] at h
    obtain ⟨hmcrDisr, hmcrVdisr, hesb⟩ := State.inputWritesVdisr_eq_false (rest := rest) hinstr hw
    cases heffect with
    | toVdisr v hgroup hmcr =>
      obtain hgroup | hgroup := hgroup
      · obtain ⟨c, t, rfl⟩ := Instr.eq_mcrDisr hgroup hmcr
        exact exec_mcrDisr_keeps_vdisr (s := s.takeInput inp rest) (hmcrDisr hgroup hmcr) h
      · obtain ⟨c, t, rfl⟩ := Instr.eq_mcrVdisr hgroup hmcr
        exact exec_mcrVdisr_keeps_vdisr (s := s.takeInput inp rest) (hmcrVdisr hgroup hmcr) h
    | deferral hgroup =>
      obtain ⟨c, rfl⟩ := Instr.eq_esb hgroup
      exact exec_esb_keeps_vdisr (s := s.takeInput inp rest) (hesb hgroup) h
    | toWindow => simp
    | _ => rfl
  | reset hkind => simp [State.inputWritesVdisr, hkind] at hw
  | _ => rfl

end

/-! ### Runs: a value that is written stays until its next writer (20_memory.md R88, R89, R91) -/

/-- A run of some steps is a step and the run of the others. -/
theorem runSteps_succ {n : Nat} {s u : State} (h : runSteps (n + 1) s = .next u) :
    ∃ t, step s = .next t ∧ runSteps n t = .next u := by
  rw [runSteps] at h
  split at h
  case h_1 t hstep => exact ⟨t, hstep, h⟩
  all_goals cases h

/-- A step that goes on keeps the implementation and takes the head of the queue. -/
theorem step_impl_inputs {s t : State} {inp : StepInput} {rest : List StepInput} (hq : s.inputs = inp :: rest)
    (h : step s = .next t) : t.impl = s.impl ∧ t.inputs = rest := by
  obtain ⟨himpl, -, -, hinputs⟩ := (step_effect hq h).constants
  exact ⟨himpl, hinputs⟩

/-- A run whose inputs do not write a piece of the state keeps it: each step does. `field` is the piece, and `writes`
says which inputs write it on the implementation of a state. -/
theorem runSteps_keeps {field : State → Word} {writes : State → StepInput → Bool}
    (hcongr : ∀ {s u : State}, u.impl = s.impl → writes u = writes s)
    (hkeep : ∀ {s t : State} {inp : StepInput} {rest : List StepInput},
      s.inputs = inp :: rest → step s = .next t → writes s inp = false → field t = field s)
    (mid : List StepInput) {rest : List StepInput} {s u : State} (hq : s.inputs = mid ++ rest)
    (hmid : ∀ inp ∈ mid, writes s inp = false) (hrun : runSteps mid.length s = .next u) :
    field u = field s ∧ u.impl = s.impl ∧ u.inputs = rest := by
  induction mid generalizing s with
  | nil =>
    cases hrun
    exact ⟨rfl, rfl, hq⟩
  | cons inp mid ih =>
    obtain ⟨t, hstep, hrun⟩ := runSteps_succ hrun
    obtain ⟨himpl, hinputs⟩ := step_impl_inputs hq hstep
    obtain ⟨hhead, htail⟩ := List.forall_mem_cons.1 hmid
    obtain ⟨hfield, himpl', hrest⟩ := ih hinputs (by rwa [hcongr himpl]) hrun
    exact ⟨hfield.trans (hkeep hq hstep hhead), himpl'.trans himpl, hrest⟩

/-- Settles O52: the ESB leaves its syndrome in DISR, the steps between keep it, and the read reaches DISR. -/
theorem esbWriteOfDisrIsObservedLater : Obligations.EsbWriteOfDisrIsObservedLater := by
  intro s u c0 c1 e0 e1 k0 k1 mid rest cn cn' t syn hq hesb hread hras hsync hraised hmid hopen hrun
  obtain ⟨w, hstep, hrun⟩ := runSteps_succ hrun
  obtain ⟨himpl, hinputs⟩ := step_impl_inputs hq hstep
  have hwritten : w.disr = ({ s with ctx := c0 } : State).physicalSyndrome syn :=
    exec_esb_disr (s := s.takeInput ⟨c0, e0, k0⟩ _) hras hraised hsync ((step_of_instr hq hesb).symm.trans hstep)
  obtain ⟨hkept, himpl', hinputs'⟩ := runSteps_keeps State.inputWritesDisr_congr step_keeps_disr mid hinputs
    (by rwa [State.inputWritesDisr_congr himpl]) hrun
  have hopen' : (u.takeInput ⟨c1, e1, k1⟩ rest).disrOpen = true :=
    (State.disrOpen_takeInput (himpl'.trans himpl) _ _).trans hopen
  refine ⟨_, (step_of_instr hinputs' hread).trans (exec_mrcDisr_of_open hopen' cn' t), ?_⟩
  simp [hkept, hwritten]

/-- Settles O53: the ESB leaves its syndrome in VDISR, the steps between keep it, and either read reaches VDISR. -/
theorem esbWriteOfVdisrIsObservedLater : Obligations.EsbWriteOfVdisrIsObservedLater := by
  intro s u c0 c1 e0 e1 k0 k1 mid rest cn cn' t hq hesb hread hras hel2 hel hraised hmid hrun
  obtain ⟨w, hstep, hrun⟩ := runSteps_succ hrun
  obtain ⟨himpl, hinputs⟩ := step_impl_inputs hq hstep
  have hadm : ({ s with ctx := c0 } : State).virtualAdmissible = true := by simp [State.virtualAdmissible, hel2, hel]
  have hwritten : w.vdisr = ({ s with ctx := c0 } : State).virtualSyndrome :=
    exec_esb_vdisr (s := s.takeInput ⟨c0, e0, k0⟩ _) hras hraised hadm ((step_of_instr hq hesb).symm.trans hstep)
  obtain ⟨hkept, himpl', hinputs'⟩ := runSteps_keeps State.inputWritesVdisr_congr step_keeps_vdisr mid hinputs
    (by rwa [State.inputWritesVdisr_congr himpl]) hrun
  obtain ⟨hread, hredir⟩ | ⟨hread, hopen⟩ := hread
  · have hredir' : (u.takeInput ⟨c1, e1, k1⟩ rest).disrRedirected = true :=
      (State.disrRedirected_takeInput (himpl'.trans himpl) _ _).trans hredir
    refine ⟨_, (step_of_instr hinputs' hread).trans (exec_mrcDisr_of_redirected hredir' cn' t), ?_⟩
    simp [hkept, hwritten]
  · have hopen' : (u.takeInput ⟨c1, e1, k1⟩ rest).virtOpen = true :=
      (State.virtOpen_takeInput (himpl'.trans himpl) _ _).trans hopen
    refine ⟨_, (step_of_instr hinputs' hread).trans (exec_mrcVdisr_of_open hopen' cn' t), ?_⟩
    simp [hkept, hwritten]

end Sys2Proof.Machine

namespace Sys2Proof.Laws

open Sys2Proof Sys2Proof.Machine

/-! ### A word by its fields (30_encoding.md R101, R105, R112) -/

section
variable {w v : Word}

/-- Words that agree on a field agree on its bits. -/
theorem getLsbD_eq_of_field_eq {start len i : Nat} (hfield : w.extractLsb' start len = v.extractLsb' start len)
    (hlo : start ≤ i) (hhi : i < start + len) : w.getLsbD i = v.getLsbD i := by
  have hbit := congrArg (·.getLsbD (i - start)) hfield
  simpa [show i - start < len by omega, Nat.add_sub_cancel' hlo] using hbit

/-- Words that agree under a mask agree on the bits the mask keeps. -/
theorem getLsbD_eq_of_and_eq {m : Word} {i : Nat} (hmask : w &&& m = v &&& m) (hbit : m.getLsbD i = true) :
    w.getLsbD i = v.getLsbD i := by
  simpa [hbit] using congrArg (·.getLsbD i) hmask

/-- The mask of the ESB row leaves out the condition alone. -/
theorem eq_of_cond_of_hintMask (hcond : w.extractLsb' 28 4 = v.extractLsb' 28 4)
    (hmask : w &&& hintMask = v &&& hintMask) : w = v := by
  have hcover : ∀ i < 32, 28 ≤ i ∨ hintMask.getLsbD i = true := by decide
  refine BitVec.eq_of_getLsbD_eq fun i hi => ?_
  obtain hlo | hbit := hcover i hi
  · exact getLsbD_eq_of_field_eq hcond hlo hi
  · exact getLsbD_eq_of_and_eq hmask hbit

/-- The mask of an MRC or MCR row leaves out the condition and the transfer register alone. -/
theorem eq_of_cond_of_rt_of_accessMask (hcond : w.extractLsb' 28 4 = v.extractLsb' 28 4)
    (hrt : w.extractLsb' 12 4 = v.extractLsb' 12 4) (hmask : w &&& accessMask = v &&& accessMask) : w = v := by
  have hcover : ∀ i < 32, 28 ≤ i ∨ (12 ≤ i ∧ i < 16) ∨ accessMask.getLsbD i = true := by decide
  refine BitVec.eq_of_getLsbD_eq fun i hi => ?_
  obtain hlo | ⟨hlo, hhi⟩ | hbit := hcover i hi
  · exact getLsbD_eq_of_field_eq hcond hlo hi
  · exact getLsbD_eq_of_field_eq hrt hlo hhi
  · exact getLsbD_eq_of_and_eq hmask hbit

end

/-! ### The opcode map and the instructions it holds (30_encoding.md R105, R111) -/

/-- A transfer register is read from its own Rt field alone (30_encoding.md R104, R111). -/
theorem bits_of_reg_ofBits {b : BitVec 4} {t : Reg} (h : Reg.ofBits b = .ok t) : t.bits = b := by
  have hbits : ∀ b : BitVec 4, ∀ t ∈ (Reg.ofBits b).toOption, t.bits = b := by decide
  exact hbits b t (by rw [h]; rfl)

/-- No two rows of the opcode map hold the same instruction. -/
theorem accessRows_instr_nodup (c : Cond) (t : Reg) : (accessRows.map fun row => row.2 c t).Nodup := by
  simp [accessRows]

/-- A row of the opcode map puts the condition and the transfer register into its instruction. -/
theorem accessRows_cond_rt (c : Cond) (t : Reg) :
    ∀ row ∈ accessRows, (row.2 c t).cond = c ∧ (row.2 c t).rt = some t := by
  simp [accessRows, Instr.cond, Instr.rt]

/-- The instruction of a row of the opcode map is encoded with that row's match value. -/
theorem encode_and_accessMask_of_mem_accessRows {row : Word × (Cond → Reg → Instr)} (hrow : row ∈ accessRows) (c : Cond)
    (t : Reg) : encode (row.2 c t) &&& accessMask = row.1 := by
  obtain ⟨hcond, hrt⟩ := accessRows_cond_rt c t row hrow
  obtain ⟨-, haccess, -⟩ := encodesRow (row.2 c t)
  obtain ⟨-, -, row', hrow', hkey, hinstr⟩ := haccess t hrt
  rw [hcond] at hinstr
  rw [← hkey, List.inj_on_of_nodup_map (accessRows_instr_nodup c t) hrow' hrow hinstr]

/-- Only ESB has no transfer register, so any other instruction is a row of the opcode map. -/
theorem exists_row_of_group_ne_esb {i : Instr} (hgroup : i.group ≠ .esb) :
    ∃ row ∈ accessRows, row.1 = encode i &&& accessMask := by
  obtain ⟨-, haccess, -⟩ := encodesRow i
  cases hrt : i.rt with
  | none => exact absurd (congrArg Instr.group (eq_esb_of_rt_eq_none hrt)) hgroup
  | some t =>
    obtain ⟨-, -, row, hrow, hkey, -⟩ := haccess t hrt
    exact ⟨row, hrow, hkey⟩

/-! ### What a word that decodes is (30_encoding.md R106) -/

/-- A word decodes only by the hint word of ESB or by a row of the opcode map, under a condition other than 0b1111. -/
theorem decodeA32_eq_ok_cases {w : Word} {i : Instr} (h : decodeA32 w = .ok i) :
    w.extractLsb' 28 4 ≠ 0b1111#4 ∧
      ((w &&& hintMask = esbMatch ∧ i = .esb (w.extractLsb' 28 4)) ∨
        ∃ row ∈ accessRows, ∃ t, row.1 = w &&& accessMask ∧ t.bits = w.extractLsb' 12 4 ∧
          i = row.2 (w.extractLsb' 28 4) t) := by
  by_cases hcond : w.extractLsb' 28 4 = 0b1111#4
  · simp [decodeA32, hcond] at h
  refine ⟨hcond, ?_⟩
  by_cases hesb : w &&& hintMask = esbMatch
  · rw [decodeA32_of_esbMatch hcond hesb] at h
    exact .inl ⟨hesb, (Except.ok.inj h).symm⟩
  cases hfind : accessRows.find? (fun row => row.1 = w &&& accessMask) with
  | none =>
    simp only [decodeA32, if_neg hcond, if_neg hesb, hfind] at h
    split at h <;> cases h
  | some row =>
    have hrow := List.mem_of_find?_eq_some hfind
    have hkey : row.1 = w &&& accessMask := by simpa using List.find?_some hfind
    rw [decodeA32_of_mem_accessRows hcond hrow hkey] at h
    cases hrt : Reg.ofBits (w.extractLsb' 12 4) with
    | error e => simp [hrt, Except.map] at h
    | ok t =>
      rw [hrt] at h
      exact .inr ⟨row, hrow, t, hkey, bits_of_reg_ofBits hrt, (Except.ok.inj h).symm⟩

/-- A word that decodes is the word of its instruction (30_encoding.md R106, R107). -/
theorem encode_of_decodeA32 {w : Word} {i : Instr} (h : decodeA32 w = .ok i) : encode i = w := by
  obtain ⟨-, ⟨hesb, rfl⟩ | ⟨row, hrow, t, hkey, hbits, rfl⟩⟩ := decodeA32_eq_ok_cases h
  · obtain ⟨hcond, -, hhint⟩ := encodesRow (.esb (w.extractLsb' 28 4))
    exact eq_of_cond_of_hintMask hcond ((hhint rfl).trans hesb.symm)
  · obtain ⟨hcond, haccess, -⟩ := encodesRow (row.2 (w.extractLsb' 28 4) t)
    obtain ⟨hrowCond, hrowRt⟩ := accessRows_cond_rt (w.extractLsb' 28 4) t row hrow
    obtain ⟨hrt, -⟩ := haccess t hrowRt
    exact eq_of_cond_of_rt_of_accessMask (hcond.trans hrowCond) (hrt.trans hbits)
      ((encode_and_accessMask_of_mem_accessRows hrow _ t).trans hkey)

/-- What decodes is well formed: its condition is not 0b1111 (30_encoding.md R106). -/
theorem wf_of_decodeA32 {w : Word} {i : Instr} (h : decodeA32 w = .ok i) : i.wf = true := by
  obtain ⟨hne, -⟩ := decodeA32_eq_ok_cases h
  obtain ⟨hcond, -⟩ := encodesRow i
  rw [encode_of_decodeA32 h] at hcond
  simpa [Instr.wf, ← hcond] using hne

/-- The decoder inverts the encoder on the well-formed instructions and accepts no other word. -/
theorem decodeA32_eq_ok_iff {w : Word} {i : Instr} : decodeA32 w = .ok i ↔ i.wf = true ∧ encode i = w := by
  refine ⟨fun h => ⟨wf_of_decodeA32 h, encode_of_decodeA32 h⟩, ?_⟩
  rintro ⟨hwf, rfl⟩
  exact decodeA32_encode hwf

/-- Settles O1: the word of an instruction is its own row of the opcode map, or the hint word. -/
theorem decodeEncodeAgree : Obligations.DecodeEncodeAgree :=
  fun _ hwf => decodeA32_encode hwf

/-- Settles O2: the row that is found fixes every bit but those of the condition and Rt, which the instruction keeps. -/
theorem encodeDecodeAgree : Obligations.EncodeDecodeAgree :=
  fun _ _ h => decodeA32_eq_ok_iff.1 h

/-! ### The words that are refused (30_encoding.md R106, R108, R111; 92_eei_decisions.md D3, D18) -/

/-- Settles O4: such a word is found in the opcode map, and its Rt field names no transfer register. -/
theorem refusesRt13AndRt15 : Obligations.RefusesRt13AndRt15 := by
  intro i w hgroup hcond hmask
  obtain ⟨row, hrow, hkey⟩ := exists_row_of_group_ne_esb hgroup
  have hdecode := decodeA32_of_mem_accessRows hcond hrow (hkey.trans hmask.symm)
  constructor <;> intro hrt <;> rw [hdecode, hrt] <;> rfl

/-- A word with the condition 0b1111 is refused before anything else is looked at (30_encoding.md R106). -/
theorem decodeA32_of_cond_unconditional {w : Word} (hcond : w.extractLsb' 28 4 = 0b1111#4) :
    decodeA32 w = .error .condUnconditional := by
  simp only [decodeA32, if_pos hcond]

/-- A masked write of a read-only register is neither the ESB word nor a row of the opcode map. -/
theorem readOnlyWrites_not_decoded :
    ∀ key ∈ readOnlyWrites, key ≠ esbMatch &&& accessMask ∧ ∀ row ∈ accessRows, row.1 ≠ key := by
  simp [readOnlyWrites, accessRows, esbMatch, accessMask]

/-- A write of a read-only register is refused as that (30_encoding.md R108; D18). -/
theorem decodeA32_of_mem_readOnlyWrites {w : Word} (hcond : w.extractLsb' 28 4 ≠ 0b1111#4)
    (hkey : w &&& accessMask ∈ readOnlyWrites) : decodeA32 w = .error .readOnlyRegister := by
  obtain ⟨hesb, hrows⟩ := readOnlyWrites_not_decoded _ hkey
  have hhint : w &&& hintMask ≠ esbMatch := by
    intro heq
    have hmasks : hintMask &&& accessMask = accessMask := by decide
    exact hesb (by rw [← heq, BitVec.and_assoc, hmasks])
  have hfind : accessRows.find? (fun row => row.1 = w &&& accessMask) = none := by simpa using hrows
  simp only [decodeA32, if_neg hcond, if_neg hhint, hfind, if_pos hkey]

/-- Settles O5: the condition is looked at first, and the three words of R108 are in no other part of the map. -/
theorem refusesReadOnlyWritesAndUnconditionalWords : Obligations.RefusesReadOnlyWritesAndUnconditionalWords := by
  refine fun w => ⟨decodeA32_of_cond_unconditional, fun hcond hword => decodeA32_of_mem_readOnlyWrites hcond ?_⟩
  simpa [readOnlyWrites, accessMask] using hword

/-! ### The T32 form (30_encoding.md R103, R112) -/

/-- Bits 27:24 tell an MRC or MCR from an ESB (30_encoding.md R101, R112). -/
theorem encode_class (i : Instr) : (encode i).extractLsb' 24 4 = if i.group = .esb then 0b0011#4 else 0b1110#4 := by
  by_cases hgroup : i.group = .esb
  · obtain ⟨c, rfl⟩ := Instr.eq_esb hgroup
    revert c
    decide
  · obtain ⟨row, hrow, hkey⟩ := exists_row_of_group_ne_esb hgroup
    have hrows : ∀ row ∈ accessRows, row.1.extractLsb' 24 4 = 0b1110#4 := by decide
    have hkept : accessMask.extractLsb' 24 4 = BitVec.allOnes 4 := by decide
    have hclass := hrows row hrow
    rw [hkey, BitVec.extractLsb'_and, hkept, BitVec.and_allOnes] at hclass
    rw [hclass, if_neg hgroup]

/-- A field of the first byte of two halfwords is a field of the word they make up (30_encoding.md R103). -/
theorem firstByte_field {hw1 hw2 : BitVec 16} {start : Nat} (hstart : start ≤ 4) :
    (hw1.extractLsb' 8 8).extractLsb' start 4 = (hw1 ++ hw2).extractLsb' (24 + start) 4 := by
  ext k hk
  rw [BitVec.getElem_extractLsb', BitVec.getLsbD_extractLsb', BitVec.getElem_extractLsb', BitVec.getLsbD_append,
    if_neg (by omega), decide_eq_true (by omega), Bool.true_and]
  congr 1
  omega

/-- The first byte of an instruction's word as two halfwords is that of a T32 access exactly if it is an MRC or MCR under
the condition "always" (30_encoding.md R103). -/
theorem encode_firstByte_iff {i : Instr} {hw1 hw2 : BitVec 16} (henc : encode i = hw1 ++ hw2) :
    hw1.extractLsb' 8 8 = 0b11101110#8 ↔ i.cond = condAlways ∧ i.group ≠ .esb := by
  have hbyte : ∀ b : BitVec 8, b = 0b11101110#8 ↔ b.extractLsb' 4 4 = condAlways ∧ b.extractLsb' 0 4 = 0b1110#4 := by
    decide
  obtain ⟨hcond, -⟩ := encodesRow i
  rw [hbyte, firstByte_field (hw2 := hw2) (by decide), firstByte_field (hw2 := hw2) (by decide), ← henc, hcond,
    encode_class]
  by_cases hgroup : i.group = .esb <;> simp [hgroup]

/-- The decoder on the T32 halfwords of ESB (30_encoding.md R112). -/
theorem decodeT32_of_esbT32 {hw1 hw2 : BitVec 16} (hesb : (hw1, hw2) = esbT32) :
    decodeT32 hw1 hw2 = .ok (.esb condAlways) :=
  if_pos hesb

/-- Other T32 halfwords are the A32 word of an MRC or MCR with the condition "always" (30_encoding.md R103). -/
theorem decodeT32_eq_ok_iff_of_ne_esbT32 {hw1 hw2 : BitVec 16} {i : Instr} (hesb : (hw1, hw2) ≠ esbT32) :
    decodeT32 hw1 hw2 = .ok i ↔ i.cond = condAlways ∧ i.group ≠ .esb ∧ encode i = hw1 ++ hw2 := by
  simp only [decodeT32, if_neg hesb]
  constructor
  · intro h
    split at h
    next hbyte =>
      have henc := encode_of_decodeA32 h
      obtain ⟨hcond, hgroup⟩ := (encode_firstByte_iff henc).1 hbyte
      exact ⟨hcond, hgroup, henc⟩
    next => cases h
  · rintro ⟨hcond, hgroup, henc⟩
    rw [if_pos ((encode_firstByte_iff henc).2 ⟨hcond, hgroup⟩), ← henc]
    exact decodeA32_encode (by simp [Instr.wf, hcond, condAlways])

/-- Settles O6: the halfwords of ESB begin no MRC or MCR, and of all others the A32 decoder reads the word. -/
theorem t32DecodesTheSameWords : Obligations.T32DecodesTheSameWords := by
  intro hw1 hw2 i
  by_cases hesb : (hw1, hw2) = esbT32
  · rw [decodeT32_of_esbT32 hesb]
    obtain ⟨rfl, rfl⟩ := Prod.mk.inj hesb
    constructor
    · rintro ⟨⟩
      exact ⟨rfl, .inr ⟨rfl, rfl, rfl⟩⟩
    · rintro ⟨hcond, ⟨hgroup, henc⟩ | ⟨hgroup, -⟩⟩
      · exact absurd ((encode_firstByte_iff henc).2 ⟨hcond, hgroup⟩) (by decide)
      · obtain ⟨c, rfl⟩ := Instr.eq_esb hgroup
        obtain rfl : c = condAlways := hcond
        rfl
  · have hhalves : ¬(hw1 = 0xF3AF#16 ∧ hw2 = 0x8010#16) := fun ⟨h1, h2⟩ => hesb (Prod.ext h1 h2)
    simp only [decodeT32_eq_ok_iff_of_ne_esbT32 hesb, condAlways, hhalves, and_false, or_false]

/-! ### Words the spec prints (95_test_vectors.md 2.1) -/

/-- Settles O3: five words are encodings, three have the numbers of a read-only register. -/
theorem decodesWordsOfTheSpec : Obligations.DecodesWordsOfTheSpec := by
  refine ⟨decodeA32_eq_ok_iff.2 ?_, decodeA32_eq_ok_iff.2 ?_, decodeA32_eq_ok_iff.2 ?_, decodeA32_eq_ok_iff.2 ?_,
    decodeA32_of_mem_readOnlyWrites ?_ ?_, decodeA32_of_mem_readOnlyWrites ?_ ?_, decodeA32_of_mem_readOnlyWrites ?_ ?_,
    decodeA32_eq_ok_iff.2 ?_⟩
  all_goals decide

end Sys2Proof.Laws

namespace Sys2Proof.Machine

open Sys2Proof

/-! ### The two ERR checks (40_access_common.md R122, R123) -/

/-- Settles O23: each listing against the table of causes. -/
theorem errAccessPerformedExactlyWhenOpen : Obligations.ErrAccessPerformedExactlyWhenOpen :=
  fun f s => ⟨errReadCheck_eq_none_iff f s, errWriteCheck_eq_none_iff f s⟩

/-- Two arms of a listing with one guard and one outcome are one arm under either control. -/
theorem arm_or (guard x y : Bool) (e : Exc) (rest : Option Exc) :
    (if guard && x then some e else if guard && y then some e else rest) =
      if guard && (x || y) then some e else rest := by
  simp only [Bool.and_or_distrib_left, Bool.or_eq_true, ite_or]

/-- Settles O24: each arm of TWERR follows the arm of TERR that has its guard and its outcome. -/
theorem writeCheckIsReadCheckWithTwerr : Obligations.WriteCheckIsReadCheckWithTwerr := by
  intro f s
  simp only [errWriteCheck, arm_or]
  rfl

/-! ### The presence check and the arms of EL0 (40_access_common.md R121, R132; 60_exceptions.md R261(a), (b)) -/

section
variable {s : State}

/-- Arms P and E0 of the read check. -/
theorem errReadCheck_of_closed {f : Feature} (hclosed : s.present f = false ∨ s.ctx.el = .el0) :
    errReadCheck f s = some .undefined := by
  obtain habsent | hel := hclosed
  · simp [errReadCheck, habsent]
  · simp [errReadCheck, hel]

/-- Arms P and E0 of the write check: TWERR has no part in them. -/
theorem errWriteCheck_of_closed {f : Feature} (hclosed : s.present f = false ∨ s.ctx.el = .el0) :
    errWriteCheck f s = some .undefined :=
  (writeCheckIsReadCheckWithTwerr f s).trans (errReadCheck_of_closed hclosed)

/-- Arms P and V0 of VirtCheck. -/
theorem virtCheck_of_closed (hstrEL2 hstr : Bool) (hclosed : s.present .ras = false ∨ s.ctx.el = .el0) :
    virtCheck hstrEL2 hstr s = some .undefined := by
  obtain habsent | hel := hclosed
  · simp [virtCheck, habsent]
  · simp [virtCheck, hel]

/-- Arms P and D0 of the DISR encoding (41_disr.md R150). -/
theorem disrPath_of_closed (hclosed : s.present .ras = false ∨ s.ctx.el = .el0) : disrPath s = .raises .undefined := by
  obtain habsent | hel := hclosed
  · simp [disrPath, habsent]
  · simp [disrPath, hel]

/-- Every access without its features, and every access at EL0, is stopped by the first arms of its check. -/
theorem exec_of_closed {i : Instr} (haccess : i.group ≠ .esb)
    (hclosed : s.present i.feature = false ∨ s.ctx.el = .el0) :
    exec i s = .next { s with result := .raised .undefined } := by
  obtain ⟨_, _, _, -, -, -, -, hexec⟩ | ⟨_, _, _, -, -, -, -, -, hexec⟩ | ⟨c, t, rfl | rfl⟩ |
    ⟨c, t, rfl | rfl | rfl⟩ | ⟨c, t, rfl | rfl | rfl | rfl⟩ | ⟨c, rfl⟩ := exec_shapes i
  · rw [hexec, errReadCheck_of_closed hclosed, guarded_some]
  · rw [hexec, errWriteCheck_of_closed hclosed, guarded_some]
  · rw [exec_mrcDisr, execMrcDisr, disrPath_of_closed hclosed]
    rfl
  · rw [exec_mcrDisr, execMcrDisr, disrPath_of_closed hclosed]
    rfl
  · rw [exec_mrcErridr, errReadCheck_of_closed (f := .ras) hclosed, guarded_some]
  · rw [exec_mrcErrselr, errReadCheck_of_closed (f := .ras) hclosed, guarded_some]
  · rw [exec_mcrErrselr, errWriteCheck_of_closed (f := .ras) hclosed, guarded_some]
  · rw [exec_mrcVdfsr, vdfsrCheck, virtCheck_of_closed _ _ hclosed, guarded_some]
  · rw [exec_mcrVdfsr, vdfsrCheck, virtCheck_of_closed _ _ hclosed, guarded_some]
  · rw [exec_mrcVdisr, vdisrCheck, virtCheck_of_closed _ _ hclosed, guarded_some]
  · rw [exec_mcrVdisr, vdisrCheck, virtCheck_of_closed _ _ hclosed, guarded_some]
  · exact absurd rfl haccess

end

/-- Settles O18: either missing feature makes the register absent. -/
theorem absentRegisterIsUndefined : Obligations.AbsentRegisterIsUndefined :=
  fun _ _ haccess hmissing => exec_of_closed haccess (.inl (Bool.and_eq_false_iff.2 hmissing))

/-- Settles O19: no listing has an arm of EL0 that falls through. -/
theorem el0AccessIsUndefined : Obligations.El0AccessIsUndefined :=
  fun _ _ haccess hel => exec_of_closed haccess (.inr hel)

/-! ### What an exceptional outcome leaves alone (40_access_common.md R120; 60_exceptions.md R266) -/

/-- Settles O17: of the effects of an instruction, only the one that changes nothing else can report it. -/
theorem exceptionalOutcomesChangeNothing : Obligations.ExceptionalOutcomesChangeNothing := by
  intro i s t e hexec hraised
  have heffect := exec_effect hexec
  cases heffect with
  | report r =>
    cases hraised
    rfl
  | _ => cases hraised

/-! ### The VIRT template (40_access_common.md R125) -/

/-- Arms V1.1 to V1.3: at EL1 the access is trapped or UNDEFINED. -/
theorem virtCheck_of_el1 (hstrEL2 hstr : Bool) {s : State} (hpresent : s.present .ras = true) (hel : s.ctx.el = .el1) :
    virtCheck hstrEL2 hstr s = some (if s.el2A64 = true ∧ hstrEL2 = true then .a64Trap .el2 3
      else if s.el2A32 = true ∧ hstr = true then .hypTrap 3 else .undefined) := by
  simp only [virtCheck, hpresent, hel, Bool.not_true, Bool.false_eq_true, if_false, Bool.and_eq_true, apply_ite some]
  rfl

/-- Arm V3.1: at EL3 with SCR.NS == 0. -/
theorem virtCheck_of_el3_secure (hstrEL2 hstr : Bool) {s : State} (hel : s.ctx.el = .el3) (hns : s.ctx.scrNS = false) :
    virtCheck hstrEL2 hstr s = some .undefined := by
  simp [virtCheck, hel, hns]

/-- An access by the encoding of VDFSR or VDISR, with the two HSTR bits of its register. -/
def Instr.isVirtAccess (i : Instr) (hstrEL2 hstr : Bool) (s : State) : Prop :=
  (i.group = .vdfsr ∧ hstrEL2 = s.ctx.hstrEL2T5 ∧ hstr = s.ctx.hstrT5) ∨
    (i.group = .vdisr ∧ hstrEL2 = s.ctx.hstrEL2T12 ∧ hstr = s.ctx.hstrT12)

section
variable {i : Instr} {s : State} {hstrEL2 hstr : Bool}

/-- Each of the four is its VirtCheck, then an access that ends in Done. -/
theorem exec_virt (hvirt : Instr.isVirtAccess i hstrEL2 hstr s) :
    ∃ access : State → State, exec i s = guarded (virtCheck hstrEL2 hstr s) (fun s => (access s).finish) s := by
  obtain ⟨hgroup, rfl, rfl⟩ | ⟨hgroup, rfl, rfl⟩ := hvirt
  · cases i with
    | mrcVdfsr c t => exact ⟨fun s => s.writeGpr t s.vdfsr, rfl⟩
    | mcrVdfsr c t => exact ⟨fun s => s.writeVdfsr (s.readGpr t), rfl⟩
    | _ => cases hgroup
  · cases i with
    | mrcVdisr c t => exact ⟨fun s => s.writeGpr t s.vdisr, rfl⟩
    | mcrVdisr c t => exact ⟨fun s => s.writeVdisr (s.readGpr t), rfl⟩
    | _ => cases hgroup

/-- An outcome of VirtCheck is the outcome of the access. -/
theorem exec_virt_of_some (hvirt : Instr.isVirtAccess i hstrEL2 hstr s) {e : Exc}
    (hcheck : virtCheck hstrEL2 hstr s = some e) : exec i s = .next { s with result := .raised e } := by
  obtain ⟨access, hexec⟩ := exec_virt hvirt
  rw [hexec, hcheck, guarded_some]

/-- An access that VirtCheck lets through is performed. -/
theorem exec_virt_of_open (hvirt : Instr.isVirtAccess i hstrEL2 hstr s) (hopen : s.virtOpen = true) :
    ∃ t, exec i s = .next t ∧ t.result = .done := by
  obtain ⟨access, hexec⟩ := exec_virt hvirt
  rw [hexec, (virtCheck_eq_none_iff ..).2 hopen, guarded_none]
  exact ⟨_, rfl, rfl⟩

end

/-- Settles O48: the arms V1.1 to V1.3 and V3.1. -/
theorem virtRegistersAreClosedToEL1 : Obligations.VirtRegistersAreClosedToEL1 :=
  fun _ _ hstrEL2 hstr hpresent hvirt =>
    ⟨fun hel => exec_virt_of_some hvirt (virtCheck_of_el1 hstrEL2 hstr hpresent hel),
      fun hel hns => exec_virt_of_some hvirt (virtCheck_of_el3_secure hstrEL2 hstr hel hns)⟩

/-- Settles O58: the arms P and V0 to V3.2, one by one. -/
theorem virtAccessesFollowTheListing : Obligations.VirtAccessesFollowTheListing := by
  intro i s hstrEL2 hstr hvirt
  refine ⟨fun habsent => ?_, fun hras haa32 => ?_⟩
  · have hpresent : s.present .ras = false := by simpa [State.present, hasFeature] using habsent
    exact exec_virt_of_some hvirt (virtCheck_of_closed hstrEL2 hstr (.inl hpresent))
  have hpresent : s.present .ras = true := Bool.and_eq_true_iff.2 ⟨hras, haa32⟩
  refine ⟨fun hel => ?_, fun hel => ?_, fun hel => ?_, fun hel hns => ?_, fun hel hns => ?_⟩
  · exact exec_virt_of_some hvirt (virtCheck_of_closed hstrEL2 hstr (.inr hel))
  · have hexec := exec_virt_of_some hvirt (virtCheck_of_el1 hstrEL2 hstr hpresent hel)
    simpa only [State.el2A64, State.el2A32, hasFeature, Bool.and_eq_true, Bool.not_eq_true', and_assoc] using hexec
  · exact exec_virt_of_open hvirt (by simp [State.virtOpen, hpresent, hel])
  · exact exec_virt_of_some hvirt (virtCheck_of_el3_secure hstrEL2 hstr hel hns)
  · exact exec_virt_of_open hvirt (by simp [State.virtOpen, hpresent, hel, hns])

end Sys2Proof.Machine

namespace Sys2Proof.Machine

open Sys2Proof

/-! ### Accesses that do not depend on DISR and VDISR (40_access_common.md R132; 60_exceptions.md R268) -/

/-- The state with other values in DISR and VDISR. -/
def State.withSyndromes (s : State) (d v : Word) : State := { s with disr := d, vdisr := v }

/-- An access that goes on, and with other values in DISR and VDISR does the same and keeps these values. -/
def BlindToSyndromes (access : State → Res) : Prop :=
  ∀ s : State, ∃ u : State, access s = .next u ∧ ∀ d v, access (s.withSyndromes d v) = .next (u.withSyndromes d v)

/-- A write through a window neither reads nor writes DISR and VDISR (10_state.md R36). -/
theorem State.writeHalf_withSyndromes (s : State) (d v : Word) (n : Nat) (k : RecReg) (h : Half) (w : Word) :
    (s.withSyndromes d v).writeHalf n k h w = (s.writeHalf n k h w).withSyndromes d v := by
  have hwindow : (s.withSyndromes d v).windowRes0 n k = s.windowRes0 n k := rfl
  have himpl : (s.withSyndromes d v).impl = s.impl := rfl
  rw [State.writeHalf, State.writeHalf, hwindow, himpl]
  cases s.windowRes0 n k with
  | false => rfl
  | true => cases s.impl.res0Storage <;> rfl

/-- A guarded access is blind when its check and the access are. -/
theorem BlindToSyndromes.guarded {check : State → Option Exc} {access : State → Res}
    (hcheck : ∀ (s : State) (d v : Word), check (s.withSyndromes d v) = check s) (haccess : BlindToSyndromes access) :
    BlindToSyndromes fun s => guarded (check s) access s := by
  intro s
  simp only [hcheck]
  cases check s with
  | some e => exact ⟨_, rfl, fun _ _ => rfl⟩
  | none => exact haccess s

/-- `ErxRead` (40_access_common.md R126). -/
theorem erxRead_blind (k : RecReg) (h : Half) (t : Reg) : BlindToSyndromes (erxRead k h t) := by
  intro s
  by_cases hsel : s.sel < s.impl.num
  · exact ⟨_, erxRead_of_lt k h t hsel, fun _ _ => erxRead_of_lt k h t hsel⟩
  have hsel := BitVec.not_lt.1 hsel
  cases hopt : s.impl.erxOor with
  | unknownRecord =>
    by_cases hnum : s.impl.num = 0
    · exact ⟨_, erxRead_unknown_of_noRecords k h t hsel hopt hnum,
        fun _ _ => erxRead_unknown_of_noRecords k h t hsel hopt hnum⟩
    · exact ⟨_, erxRead_unknown_of_records k h t hsel hopt hnum,
        fun _ _ => erxRead_unknown_of_records k h t hsel hopt hnum⟩
  | razWi => exact ⟨_, erxRead_razWi k h t hsel hopt, fun _ _ => erxRead_razWi k h t hsel hopt⟩
  | nop => exact ⟨_, erxRead_nop k h t hsel hopt, fun _ _ => erxRead_nop k h t hsel hopt⟩
  | undef => exact ⟨_, erxRead_undef k h t hsel hopt, fun _ _ => erxRead_undef k h t hsel hopt⟩

/-- `ErxWrite` (40_access_common.md R127). -/
theorem erxWrite_blind (k : RecReg) (h : Half) (t : Reg) : BlindToSyndromes (erxWrite k h t) := by
  intro s
  by_cases hsel : s.sel < s.impl.num
  · refine ⟨_, erxWrite_of_lt k h t hsel, fun d v => ?_⟩
    rw [erxWrite_of_lt (s := s.withSyndromes d v) k h t hsel, State.writeHalf_withSyndromes]
    rfl
  have hsel := BitVec.not_lt.1 hsel
  cases hopt : s.impl.erxOor with
  | unknownRecord =>
    by_cases hnum : s.impl.num = 0
    · exact ⟨_, erxWrite_unknown_of_noRecords k h t hsel hopt hnum,
        fun _ _ => erxWrite_unknown_of_noRecords k h t hsel hopt hnum⟩
    · refine ⟨_, erxWrite_unknown_of_records k h t hsel hopt hnum, fun d v => ?_⟩
      have hdrawn : (s.withSyndromes d v).drawn = s.drawn.withSyndromes d v := rfl
      rw [erxWrite_unknown_of_records (s := s.withSyndromes d v) k h t hsel hopt hnum, hdrawn,
        State.writeHalf_withSyndromes]
      rfl
  | razWi =>
    exact ⟨_, erxWrite_ignored k h t hsel (.inl hopt), fun _ _ => erxWrite_ignored k h t hsel (.inl hopt)⟩
  | nop =>
    exact ⟨_, erxWrite_ignored k h t hsel (.inr hopt), fun _ _ => erxWrite_ignored k h t hsel (.inr hopt)⟩
  | undef => exact ⟨_, erxWrite_undef k h t hsel hopt, fun _ _ => erxWrite_undef k h t hsel hopt⟩

/-- MRC ERRSELR (42_errid_errsel.md R161). -/
theorem exec_mrcErrselr_blind (c : Cond) (t : Reg) : BlindToSyndromes (exec (.mrcErrselr c t)) := by
  refine .guarded (check := errReadCheck .ras) (fun _ _ _ => rfl) fun s => ?_
  have hundef (d v : Word) : (s.withSyndromes d v).errselrUndefined = s.errselrUndefined := rfl
  have hrange (d v : Word) : (s.withSyndromes d v).outOfRange = s.outOfRange := rfl
  simp only [hundef, hrange]
  cases s.errselrUndefined with
  | true => exact ⟨_, rfl, fun _ _ => rfl⟩
  | false => cases s.outOfRange <;> exact ⟨_, rfl, fun _ _ => rfl⟩

/-- MCR ERRSELR (42_errid_errsel.md R162). -/
theorem exec_mcrErrselr_blind (c : Cond) (t : Reg) : BlindToSyndromes (exec (.mcrErrselr c t)) := by
  refine .guarded (check := errWriteCheck .ras) (fun _ _ _ => rfl) fun s => ?_
  have hundef (d v : Word) : (s.withSyndromes d v).errselrUndefined = s.errselrUndefined := rfl
  simp only [hundef]
  cases s.errselrUndefined <;> exact ⟨_, rfl, fun _ _ => rfl⟩

/-- Every instruction but those of DISR and VDISR and the ESB is blind to both registers. -/
theorem exec_blind_or (i : Instr) :
    BlindToSyndromes (exec i) ∨ (∃ c t, i = .mrcDisr c t ∨ i = .mcrDisr c t) ∨
      (∃ c t, i = .mrcVdisr c t ∨ i = .mcrVdisr c t) ∨ ∃ c, i = .esb c := by
  obtain ⟨k, h, t, -, -, -, -, hexec⟩ | ⟨k, h, t, -, -, -, -, -, hexec⟩ | hdisr |
    ⟨c, t, rfl | rfl | rfl⟩ | ⟨c, t, rfl | rfl | hvdisr⟩ | hesb := exec_shapes i
  · rw [funext hexec]
    exact .inl (.guarded (fun _ _ _ => rfl) (erxRead_blind k h t))
  · rw [funext hexec]
    exact .inl (.guarded (fun _ _ _ => rfl) (erxWrite_blind k h t))
  · exact .inr (.inl hdisr)
  · exact .inl (.guarded (check := errReadCheck .ras) (fun _ _ _ => rfl) fun _ => ⟨_, rfl, fun _ _ => rfl⟩)
  · exact .inl (exec_mrcErrselr_blind c t)
  · exact .inl (exec_mcrErrselr_blind c t)
  · exact .inl (.guarded (check := vdfsrCheck) (fun _ _ _ => rfl) fun _ => ⟨_, rfl, fun _ _ => rfl⟩)
  · exact .inl (.guarded (check := vdfsrCheck) (fun _ _ _ => rfl) fun _ => ⟨_, rfl, fun _ _ => rfl⟩)
  · exact .inr (.inr (.inl ⟨c, t, hvdisr⟩))
  · exact .inr (.inr (.inr hesb))

/-! ### Every instruction goes on (40_access_common.md R136) -/

/-- Settles O15: the blind instructions go on, and every arm of the others does. -/
theorem everyInstructionAnswersANextState : Obligations.EveryInstructionAnswersANextState := by
  intro i s
  obtain hblind | ⟨c, t, rfl | rfl⟩ | ⟨c, t, rfl | rfl⟩ | ⟨c, rfl⟩ := exec_blind_or i
  · obtain ⟨u, hu, -⟩ := hblind s
    exact ⟨u, hu⟩
  · rw [exec_mrcDisr, execMrcDisr]
    cases disrPath s <;> exact ⟨_, rfl⟩
  · rw [exec_mcrDisr, execMcrDisr]
    cases disrPath s <;> exact ⟨_, rfl⟩
  · rw [exec_mrcVdisr]
    cases vdisrCheck s <;> exact ⟨_, rfl⟩
  · rw [exec_mcrVdisr]
    cases vdisrCheck s <;> exact ⟨_, rfl⟩
  · cases hras : s.impl.featRAS with
    | true => exact ⟨_, exec_esb_of_ras c hras⟩
    | false => exact ⟨_, exec_esb_of_not_ras c hras⟩

/-! ### What a closed DISR keeps to itself (40_access_common.md R132; 60_exceptions.md R268) -/

section
variable (s : State) (d : Word)

/-- A blind access does not reveal DISR. -/
theorem BlindToSyndromes.sameButDisr {access : State → Res} (hblind : BlindToSyndromes access) :
    sameButDisr (access s) (access { s with disr := d }) := by
  obtain ⟨u, -, hother⟩ := hblind s
  exact ⟨u.withSyndromes s.disr s.vdisr, d, hother s.disr s.vdisr, hother d s.vdisr⟩

/-- The physical part of an ESB replaces DISR or keeps it, and looks at neither value. -/
theorem State.esbPhysicalPart_with_disr :
    ∃ d', ({ s with disr := d } : State).esbPhysicalPart = { s.esbPhysicalPart with disr := d' } := by
  rw [State.esbPhysicalPart_frame, s.esbPhysicalPart_frame]
  exact ⟨_, rfl⟩

/-- The virtual part of an ESB has nothing to do with DISR (47_esb_indirect.md R252). -/
theorem State.esbVirtualPart_with_disr :
    ({ s with disr := d } : State).esbVirtualPart = { s.esbVirtualPart with disr := d } := by
  simp only [State.esbVirtualPart]
  exact (apply_ite (fun u : State => { u with disr := d }) (s.esb.virtual && s.virtualAdmissible)
    s.esbDefersVirtual s).symm

/-- ESB does not reveal DISR, open or not. -/
theorem exec_esb_sameButDisr (c : Cond) : sameButDisr (exec (.esb c) s) (exec (.esb c) { s with disr := d }) := by
  cases hras : s.impl.featRAS with
  | true =>
    obtain ⟨d', hphysical⟩ := s.esbPhysicalPart_with_disr d
    refine ⟨_, d', exec_esb_of_ras c hras, ?_⟩
    rw [exec_esb_of_ras (s := { s with disr := d }) c hras, hphysical, State.esbVirtualPart_with_disr]
  | false => exact ⟨_, d, exec_esb_of_not_ras c hras, exec_esb_of_not_ras c hras⟩

/-- The DISR encoding does not reveal DISR where it does not reach it (41_disr.md R150, R151). -/
theorem exec_disr_sameButDisr (hclosed : s.disrOpen = false) (c : Cond) (t : Reg) :
    sameButDisr (exec (.mrcDisr c t) s) (exec (.mrcDisr c t) { s with disr := d }) ∧
      sameButDisr (exec (.mcrDisr c t) s) (exec (.mcrDisr c t) { s with disr := d }) := by
  have hsame : disrPath { s with disr := d } = disrPath s := rfl
  simp only [exec_mrcDisr, execMrcDisr, exec_mcrDisr, execMcrDisr, hsame]
  cases hpath : disrPath s with
  | toDisr => simp [(disrPath_eq_toDisr_iff s).1 hpath] at hclosed
  | _ => exact ⟨⟨_, d, rfl, rfl⟩, _, d, rfl, rfl⟩

/-- The VDISR encoding does not reveal DISR (46_vdfsr_vdisr.md R232, R233). -/
theorem exec_vdisr_sameButDisr (c : Cond) (t : Reg) :
    sameButDisr (exec (.mrcVdisr c t) s) (exec (.mrcVdisr c t) { s with disr := d }) ∧
      sameButDisr (exec (.mcrVdisr c t) s) (exec (.mcrVdisr c t) { s with disr := d }) := by
  have hsame : vdisrCheck { s with disr := d } = vdisrCheck s := rfl
  simp only [exec_mrcVdisr, exec_mcrVdisr, hsame]
  cases vdisrCheck s <;> exact ⟨⟨_, d, rfl, rfl⟩, _, d, rfl, rfl⟩

end

/-- Settles O44: the one instruction that reads DISR is MRC DISR, on the path that is closed. -/
theorem hiddenDisrIsNotLearned : Obligations.HiddenDisrIsNotLearned := by
  intro i s d hclosed
  obtain hblind | ⟨c, t, rfl | rfl⟩ | ⟨c, t, rfl | rfl⟩ | ⟨c, rfl⟩ := exec_blind_or i
  · exact hblind.sameButDisr s d
  · exact (exec_disr_sameButDisr s d hclosed c t).1
  · exact (exec_disr_sameButDisr s d hclosed c t).2
  · exact (exec_vdisr_sameButDisr s d c t).1
  · exact (exec_vdisr_sameButDisr s d c t).2
  · exact exec_esb_sameButDisr s d c

/-! ### What a closed VDISR keeps to itself (40_access_common.md R125, R132; 60_exceptions.md R268) -/

section
variable (s : State) (v : Word)

/-- A blind access does not reveal VDISR. -/
theorem BlindToSyndromes.sameButVdisr {access : State → Res} (hblind : BlindToSyndromes access) :
    sameButVdisr (access s) (access { s with vdisr := v }) := by
  obtain ⟨u, -, hother⟩ := hblind s
  exact ⟨u.withSyndromes s.disr s.vdisr, v, hother s.disr s.vdisr, hother s.disr v⟩

/-- The physical part of an ESB has nothing to do with VDISR (47_esb_indirect.md R251). -/
theorem State.esbPhysicalPart_with_vdisr :
    ({ s with vdisr := v } : State).esbPhysicalPart = { s.esbPhysicalPart with vdisr := v } := by
  simp only [State.esbPhysicalPart]
  cases s.esb.physical with
  | none => rfl
  | some syn =>
    exact (apply_ite (fun u : State => { u with vdisr := v }) s.physicalAdmissible (s.esbDefersPhysical syn) s).symm

/-- The virtual part of an ESB replaces VDISR or keeps it, and looks at neither value. -/
theorem State.esbVirtualPart_with_vdisr :
    ∃ v', ({ s with vdisr := v } : State).esbVirtualPart = { s.esbVirtualPart with vdisr := v' } := by
  rw [State.esbVirtualPart_frame, s.esbVirtualPart_frame]
  exact ⟨_, rfl⟩

/-- ESB does not reveal VDISR, reached or not. -/
theorem exec_esb_sameButVdisr (c : Cond) : sameButVdisr (exec (.esb c) s) (exec (.esb c) { s with vdisr := v }) := by
  cases hras : s.impl.featRAS with
  | true =>
    obtain ⟨v', hvirtual⟩ := s.esbPhysicalPart.esbVirtualPart_with_vdisr v
    refine ⟨_, v', exec_esb_of_ras c hras, ?_⟩
    rw [exec_esb_of_ras (s := { s with vdisr := v }) c hras, State.esbPhysicalPart_with_vdisr, hvirtual]
  | false => exact ⟨_, v, exec_esb_of_not_ras c hras, exec_esb_of_not_ras c hras⟩

/-- The DISR encoding does not reveal VDISR where it is not redirected (41_disr.md R150, R151). -/
theorem exec_disr_sameButVdisr (hclosed : s.disrRedirected = false) (c : Cond) (t : Reg) :
    sameButVdisr (exec (.mrcDisr c t) s) (exec (.mrcDisr c t) { s with vdisr := v }) ∧
      sameButVdisr (exec (.mcrDisr c t) s) (exec (.mcrDisr c t) { s with vdisr := v }) := by
  have hsame : disrPath { s with vdisr := v } = disrPath s := rfl
  simp only [exec_mrcDisr, execMrcDisr, exec_mcrDisr, execMcrDisr, hsame]
  cases hpath : disrPath s with
  | toVdisr => simp [(disrPath_eq_toVdisr_iff s).1 hpath] at hclosed
  | _ => exact ⟨⟨_, v, rfl, rfl⟩, _, v, rfl, rfl⟩

/-- The VDISR encoding does not reveal VDISR where it is stopped (46_vdfsr_vdisr.md R232, R233). -/
theorem exec_vdisr_sameButVdisr (hclosed : s.virtOpen = false) (c : Cond) (t : Reg) :
    sameButVdisr (exec (.mrcVdisr c t) s) (exec (.mrcVdisr c t) { s with vdisr := v }) ∧
      sameButVdisr (exec (.mcrVdisr c t) s) (exec (.mcrVdisr c t) { s with vdisr := v }) := by
  have hsame : vdisrCheck { s with vdisr := v } = vdisrCheck s := rfl
  simp only [exec_mrcVdisr, exec_mcrVdisr, hsame]
  cases hcheck : vdisrCheck s with
  | none => simp [(virtCheck_eq_none_iff ..).1 hcheck] at hclosed
  | some e => exact ⟨⟨_, v, rfl, rfl⟩, _, v, rfl, rfl⟩

end

/-- Settles O45: the two instructions that read VDISR do it on the two paths that are closed. -/
theorem hiddenVdisrIsNotLearned : Obligations.HiddenVdisrIsNotLearned := by
  intro i s v hvirt hredir
  obtain hblind | ⟨c, t, rfl | rfl⟩ | ⟨c, t, rfl | rfl⟩ | ⟨c, rfl⟩ := exec_blind_or i
  · exact hblind.sameButVdisr s v
  · exact (exec_disr_sameButVdisr s v hredir c t).1
  · exact (exec_disr_sameButVdisr s v hredir c t).2
  · exact (exec_vdisr_sameButVdisr s v hvirt c t).1
  · exact (exec_vdisr_sameButVdisr s v hvirt c t).2
  · exact exec_esb_sameButVdisr s v c

end Sys2Proof.Machine

namespace Sys2Proof.Machine

open Sys2Proof

/-! ### The outcomes of the DISR encoding, path by path (41_disr.md R150, R151) -/

/-- What a direct write stores, by the storage of reserved bits (40_access_common.md R131). -/
theorem storedValue_eq_ite (p : Impl) (m v : Word) :
    storedValue p m v = if p.res0Storage = .readback then v else v &&& m := by
  cases hstorage : p.res0Storage <;> simp [storedValue, hstorage]

/-- The AArch64 controls of EL2 do not apply where its AArch32 controls do. -/
theorem State.el2A64_eq_false_of_el2A32 {s : State} (h32 : s.el2A32 = true) : s.el2A64 = false := by
  obtain ⟨-, hwidth⟩ := Bool.and_eq_true_iff.1 h32
  simp [State.el2A64, hwidth]

/-- The listing reads zero and ignores writes exactly when the table of causes says so. -/
theorem disrPath_eq_zero_iff (s : State) : disrPath s = .zero ↔ s.disrRazWi = true := by
  simp only [disrPath, State.disrRazWi, State.disrTrapped, State.el2RoutesSError]
  cases s.present .ras with
  | false => simp
  | true =>
    cases s.ctx.el with
    | el0 => simp
    | el1 => simp [ite_eq_iff, imp_iff_not_or, and_assoc]
    | el2 => simp
    | el3 => simp

section
variable {s : State}

/-- Arm D1.1. -/
theorem disrPath_of_hstrEL2T12 (hpresent : s.present .ras = true) (hel : s.ctx.el = .el1) (h64 : s.el2A64 = true)
    (ht12 : s.ctx.hstrEL2T12 = true) : disrPath s = .raises trapEL2A64 := by
  simp [disrPath, hpresent, hel, h64, ht12]

/-- Arm D1.2. -/
theorem disrPath_of_hstrT12 (hpresent : s.present .ras = true) (hel : s.ctx.el = .el1) (h32 : s.el2A32 = true)
    (ht12 : s.ctx.hstrT12 = true) : disrPath s = .raises trapEL2A32 := by
  simp [disrPath, hpresent, hel, State.el2A64_eq_false_of_el2A32 h32, h32, ht12]

/-- Both accesses of the group report the outcome their path raises. -/
theorem exec_disr_of_raises {i : Instr} {e : Exc} (hgroup : i.group = .disr) (hpath : disrPath s = .raises e) :
    exec i s = .next { s with result := .raised e } := by
  cases i with
  | mrcDisr c t =>
    rw [exec_mrcDisr, execMrcDisr, hpath]
    rfl
  | mcrDisr c t =>
    rw [exec_mcrDisr, execMcrDisr, hpath]
    rfl
  | _ => cases hgroup

/-- MCR DISR that reaches DISR (41_disr.md R151, arms D1.7, D2.3 and D3). -/
theorem exec_mcrDisr_of_open (hopen : s.disrOpen = true) (c : Cond) (t : Reg) :
    exec (.mcrDisr c t) s = .next { (s.writeDisr (s.gpr.read t)) with result := .done } := by
  rw [exec_mcrDisr, execMcrDisr, (disrPath_eq_toDisr_iff s).2 hopen]
  rfl

/-- MCR DISR that is redirected (41_disr.md R151, arms D1.3 and D1.4). -/
theorem exec_mcrDisr_of_redirected (hredir : s.disrRedirected = true) (c : Cond) (t : Reg) :
    exec (.mcrDisr c t) s = .next { (s.writeVdisr (s.gpr.read t)) with result := .done } := by
  rw [exec_mcrDisr, execMcrDisr, (disrPath_eq_toVdisr_iff s).2 hredir]
  rfl

/-- MRC DISR that reads zero (41_disr.md R150, arms D1.5, D1.6, D2.1 and D2.2). -/
theorem exec_mrcDisr_of_razWi (hrazwi : s.disrRazWi = true) (c : Cond) (t : Reg) :
    exec (.mrcDisr c t) s = .next { s with gpr := s.gpr.write t 0, result := .done } := by
  rw [exec_mrcDisr, execMrcDisr, (disrPath_eq_zero_iff s).2 hrazwi]
  rfl

/-- MCR DISR that is ignored (41_disr.md R151, arms D1.5, D1.6, D2.1 and D2.2). -/
theorem exec_mcrDisr_of_razWi (hrazwi : s.disrRazWi = true) (c : Cond) (t : Reg) :
    exec (.mcrDisr c t) s = .next { s with result := .done } := by
  rw [exec_mcrDisr, execMcrDisr, (disrPath_eq_zero_iff s).2 hrazwi]
  rfl

end

/-- Settles O40: the path to DISR, with what a direct write stores there. -/
theorem disrEncodingReachesDisr : Obligations.DisrEncodingReachesDisr := by
  intro c t s hopen
  refine ⟨exec_mrcDisr_of_open hopen c t, ?_⟩
  rw [exec_mcrDisr_of_open hopen, State.writeDisr, storedValue_eq_ite, disrFieldMask]

/-- Settles O41: the path to VDISR, with what a direct write stores there. -/
theorem disrEncodingRedirectedToVdisr : Obligations.DisrEncodingRedirectedToVdisr := by
  intro c t s hredir
  refine ⟨exec_mrcDisr_of_redirected hredir c t, ?_⟩
  rw [exec_mcrDisr_of_redirected hredir, State.writeVdisr, storedValue_eq_ite, vdisrFieldMask]

/-- Settles O42: the path that reads zero and ignores writes. -/
theorem disrEncodingReadsZeroUnderEA : Obligations.DisrEncodingReadsZeroUnderEA :=
  fun c t _ hrazwi => ⟨exec_mrcDisr_of_razWi hrazwi c t, exec_mcrDisr_of_razWi hrazwi c t⟩

/-- Settles O43: the traps are the first two arms of EL1, before those of AMO and EA. -/
theorem disrEncodingTrappedByT12 : Obligations.DisrEncodingTrappedByT12 :=
  fun _ _ hgroup hpresent hel =>
    ⟨fun h64 ht12 => exec_disr_of_raises hgroup (disrPath_of_hstrEL2T12 hpresent hel h64 ht12),
      fun h32 ht12 => exec_disr_of_raises hgroup (disrPath_of_hstrT12 hpresent hel h32 ht12)⟩

end Sys2Proof.Machine

namespace Sys2Proof.Machine

open Sys2Proof

/-! ### ERRIDR and ERRSELR, when the access is performed (42_errid_errsel.md R160 to R162) -/

/-- The reserved half a read of ERRSELR returns, by the storage of reserved bits (42_errid_errsel.md R161). -/
theorem State.errselrRes0_eq_ite (s : State) :
    s.errselrRes0 = if s.impl.res0Storage = .hardwired0 then 0#16 else s.errselrHi := by
  rw [State.errselrRes0]
  cases s.impl.res0Storage <;> rfl

section
variable {s : State} (hdefined : s.impl.num ≠ 0 ∨ s.impl.errselrWhenNoRecords = .res0)
include hdefined

/-- ERRSELR is defined when there is a record, or when it is RES0 without one (10_state.md R31). -/
theorem State.errselrUndefined_eq_false : s.errselrUndefined = false := by
  obtain hnum | hoption := hdefined
  · have hrecords : s.noRecords = false := Bool.eq_false_iff.2 (mt s.noRecords_iff.1 hnum)
    simp [State.errselrUndefined, hrecords]
  · simp [State.errselrUndefined, hoption]

/-- A defined ERRSELR is all reserved bits exactly when there is no record (40_access_common.md R131; log 13). -/
theorem State.writeErrselr_sel_of_defined (v : Word) :
    (s.writeErrselr v).sel =
      if s.impl.num = 0 ∧ s.impl.res0Storage = .hardwired0 then 0#16 else v.extractLsb' 0 16 := by
  have hres0 : s.impl.num = 0 → s.impl.errselrWhenNoRecords = .res0 := fun hnum => hdefined.resolve_left (· hnum)
  rw [State.writeErrselr_sel]
  refine if_congr ⟨?_, ?_⟩ rfl rfl
  · rintro ⟨hwired, hnum, -⟩
    exact ⟨hnum, hwired⟩
  · rintro ⟨hnum, hwired⟩
    exact ⟨hwired, hnum, hres0 hnum⟩

section
variable (hopen : s.errOpen false .ras = true) (c : Cond) (t : Reg)
include hopen

/-- MRC ERRSELR with a record selected. -/
theorem exec_mrcErrselr_of_lt (hsel : s.sel < s.impl.num) :
    exec (.mrcErrselr c t) s = .next { s with gpr := s.gpr.write t (s.errselrRes0 ++ s.sel), result := .done } := by
  rw [exec_mrcErrselr, guarded_errReadCheck_of_open hopen, State.errselrUndefined_eq_false hdefined,
    s.outOfRange_eq_false_iff.2 hsel]
  rfl

/-- MRC ERRSELR out of range: SEL reads as the next UNKNOWN. -/
theorem exec_mrcErrselr_of_le (hsel : s.impl.num ≤ s.sel) :
    exec (.mrcErrselr c t) s = .next { s with
      gpr := s.gpr.write t (s.errselrRes0 ++ Config.unknown16 s.draws), draws := s.draws + 1, result := .done } := by
  rw [exec_mrcErrselr, guarded_errReadCheck_of_open hopen, State.errselrUndefined_eq_false hdefined,
    s.outOfRange_iff.2 hsel]
  rfl

end

/-- MCR ERRSELR that is performed. -/
theorem exec_mcrErrselr_of_open (hopen : s.errOpen true .ras = true) (c : Cond) (t : Reg) :
    exec (.mcrErrselr c t) s = .next { (s.writeErrselr (s.gpr.read t)) with result := .done } := by
  rw [exec_mcrErrselr, guarded_errWriteCheck_of_open hopen, State.errselrUndefined_eq_false hdefined]
  rfl

end

/-- Settles O25: no branch is left once the access is performed. -/
theorem mrcErridrReadsNum : Obligations.MrcErridrReadsNum := by
  intro c t s hopen
  rw [exec_mrcErridr, guarded_errReadCheck_of_open hopen]
  rfl

/-- Settles O26: SEL selects a record, or an UNKNOWN is drawn. -/
theorem mrcErrselrReadsSel : Obligations.MrcErrselrReadsSel := by
  intro c t s hopen hdefined
  rw [← s.errselrRes0_eq_ite]
  exact ⟨exec_mrcErrselr_of_lt hdefined hopen c t, exec_mrcErrselr_of_le hdefined hopen c t⟩

/-- Settles O27: the two fields a write of ERRSELR changes, by what each of them stores. -/
theorem mcrErrselrWritesSel : Obligations.McrErrselrWritesSel := by
  intro c t s hopen hdefined
  rw [exec_mcrErrselr_of_open hdefined hopen, ← State.writeErrselr_sel_of_defined hdefined,
    ← s.writeErrselr_errselrHi]
  rfl

end Sys2Proof.Machine

namespace Sys2Proof.Machine

open Sys2Proof

/-! ### VDFSR and VDISR, when the access is performed (46_vdfsr_vdisr.md R230 to R233) -/

section
variable {s : State} (hopen : s.virtOpen = true)
include hopen

/-- Arms V2 and V3.2: VirtCheck falls through to the access, whatever the HSTR bits (40_access_common.md R125). -/
theorem guarded_virtCheck_of_open (hstrEL2 hstr : Bool) (access : State → Res) :
    guarded (virtCheck hstrEL2 hstr s) access s = access s := by
  rw [(virtCheck_eq_none_iff hstrEL2 hstr s).2 hopen, guarded_none]

variable (c : Cond) (t : Reg)

/-- MRC VDFSR that is performed (46_vdfsr_vdisr.md R230). -/
theorem exec_mrcVdfsr_of_open :
    exec (.mrcVdfsr c t) s = .next { s with gpr := s.gpr.write t s.vdfsr, result := .done } := by
  rw [exec_mrcVdfsr, vdfsrCheck, guarded_virtCheck_of_open hopen]
  rfl

/-- MCR VDFSR that is performed (46_vdfsr_vdisr.md R231). -/
theorem exec_mcrVdfsr_of_open :
    exec (.mcrVdfsr c t) s = .next { (s.writeVdfsr (s.gpr.read t)) with result := .done } := by
  rw [exec_mcrVdfsr, vdfsrCheck, guarded_virtCheck_of_open hopen]
  rfl

/-- MCR VDISR that is performed (46_vdfsr_vdisr.md R233). -/
theorem exec_mcrVdisr_of_open :
    exec (.mcrVdisr c t) s = .next { (s.writeVdisr (s.gpr.read t)) with result := .done } := by
  rw [exec_mcrVdisr, vdisrCheck, guarded_virtCheck_of_open hopen]
  rfl

end

/-- Settles O46: VirtCheck falls through, and a direct write of VDFSR stores under the mask of its named bits. -/
theorem vdfsrReadsAndWrites : Obligations.VdfsrReadsAndWrites := by
  intro c t s hopen
  refine ⟨exec_mrcVdfsr_of_open hopen c t, ?_⟩
  rw [exec_mcrVdfsr_of_open hopen, State.writeVdfsr, storedValue_eq_ite, vdfsrFieldMask]

/-- Settles O47: VirtCheck falls through, and a direct write of VDISR stores under the mask of its named bits. -/
theorem vdisrReadsAndWrites : Obligations.VdisrReadsAndWrites := by
  intro c t s hopen
  refine ⟨exec_mrcVdisr_of_open hopen c t, ?_⟩
  rw [exec_mcrVdisr_of_open hopen, State.writeVdisr, storedValue_eq_ite, vdisrFieldMask]

end Sys2Proof.Machine

namespace Sys2Proof.Machine

open Sys2Proof

/-! ### The syndrome words an ESB records, as shifted fields (47_esb_indirect.md R251, R252) -/

/-- Layout (a) as the rule writes it (10_state.md R25). -/
theorem hypSyndrome_eq_or (aet : BitVec 2) (ea : BitVec 1) (dfsc : BitVec 6) :
    hypSyndrome aet ea dfsc =
      (1#32 <<< 31) ||| (aet.setWidth 32 <<< 10) ||| (ea.setWidth 32 <<< 9) ||| dfsc.setWidth 32 := by
  unfold hypSyndrome
  ext i hi
  simp only [BitVec.getElem_or, BitVec.getElem_append]
  interval_cases i <;> simp

/-- Layout (b) as the rule writes it: the top bit of FS stands apart from the other four (10_state.md R26). -/
theorem shortSyndrome_eq_or (aet : BitVec 2) (ext : BitVec 1) (fs : BitVec 5) :
    shortSyndrome aet ext fs =
      (1#32 <<< 31) ||| (aet.setWidth 32 <<< 14) ||| (ext.setWidth 32 <<< 12)
        ||| ((fs >>> 4).setWidth 32 <<< 10) ||| (fs &&& 0b01111#5).setWidth 32 := by
  unfold shortSyndrome
  ext i hi
  simp only [BitVec.getElem_or, BitVec.getElem_append]
  interval_cases i <;> simp

/-- Layout (c) as the rule writes it (10_state.md R27). -/
theorem longSyndrome_eq_or (aet : BitVec 2) (ext : BitVec 1) (status : BitVec 6) :
    longSyndrome aet ext status =
      (1#32 <<< 31) ||| (aet.setWidth 32 <<< 14) ||| (ext.setWidth 32 <<< 12)
        ||| (1#32 <<< 9) ||| status.setWidth 32 := by
  unfold longSyndrome
  ext i hi
  simp only [BitVec.getElem_or, BitVec.getElem_append]
  interval_cases i <;> simp

section
variable {s : State} (syn : Syndrome)

/-- At EL2 a physical deferral uses layout (a). -/
theorem State.physicalSyndrome_of_el2 (hel : s.ctx.el = .el2) :
    s.physicalSyndrome syn = hypSyndrome syn.aet syn.ea syn.dfsc :=
  if_pos hel

/-- Below EL2, and at EL3 (D10), TTBCR.EAE == 0 selects layout (b). -/
theorem State.physicalSyndrome_of_short (hel : s.ctx.el ≠ .el2) (heae : s.ctx.ttbcrEAE = false) :
    s.physicalSyndrome syn = shortSyndrome syn.aet syn.ext syn.fs :=
  (if_neg hel).trans (if_neg (by simp [heae]))

/-- Below EL2, and at EL3 (D10), TTBCR.EAE == 1 selects layout (c). -/
theorem State.physicalSyndrome_of_long (hel : s.ctx.el ≠ .el2) (heae : s.ctx.ttbcrEAE = true) :
    s.physicalSyndrome syn = longSyndrome syn.aet syn.ext syn.status :=
  (if_neg hel).trans (if_pos heae)

end

/-- Settles O50: each of the three cases selects one layout. -/
theorem physicalSyndromeLayouts : Obligations.PhysicalSyndromeLayouts := by
  intro s syn
  refine ⟨fun hel => ?_, fun hel heae => ?_, fun hel heae => ?_⟩
  · rw [State.physicalSyndrome_of_el2 syn hel, hypSyndrome_eq_or]
  · rw [State.physicalSyndrome_of_short syn hel heae, shortSyndrome_eq_or]
  · rw [State.physicalSyndrome_of_long syn hel heae, longSyndrome_eq_or]

/-- Layouts (b) and (c) with a constant code: the constants of the word come together in front of AET and ExT. -/
theorem or_constants_first (aBit aet ext high low : Word) :
    aBit ||| aet ||| ext ||| high ||| low = (aBit ||| high ||| low) ||| aet ||| ext := by
  ac_rfl

/-- A virtual deferral in layout (b): A and the two parts of the FS code make up the constant (10_state.md R41). -/
theorem shortSyndrome_asyncSErrorFS (aet : BitVec 2) (ext : BitVec 1) :
    shortSyndrome aet ext asyncSErrorFS =
      0x80000406#32 ||| (aet.setWidth 32 <<< 14) ||| (ext.setWidth 32 <<< 12) := by
  have hconst : (1#32 <<< 31) ||| ((asyncSErrorFS >>> 4).setWidth 32 <<< 10)
      ||| (asyncSErrorFS &&& 0b01111#5).setWidth 32 = 0x80000406#32 := by decide
  rw [shortSyndrome_eq_or, or_constants_first, hconst]

/-- A virtual deferral in layout (c): A, LPAE and the STATUS code make up the constant (10_state.md R42). -/
theorem longSyndrome_asyncSErrorStatus (aet : BitVec 2) (ext : BitVec 1) :
    longSyndrome aet ext asyncSErrorStatus =
      0x80000211#32 ||| (aet.setWidth 32 <<< 14) ||| (ext.setWidth 32 <<< 12) := by
  have hconst : (1#32 <<< 31) ||| (1#32 <<< 9) ||| asyncSErrorStatus.setWidth 32 = 0x80000211#32 := by decide
  rw [longSyndrome_eq_or, or_constants_first, hconst]

/-- The word of a virtual deferral: a constant by TTBCR.EAE, and two fields of VDFSR (47_esb_indirect.md R252). -/
theorem State.virtualSyndrome_eq_or (s : State) :
    s.virtualSyndrome = (if s.ctx.ttbcrEAE = true then 0x80000211#32 else 0x80000406#32)
      ||| ((s.vdfsr.extractLsb' 14 2).setWidth 32 <<< 14) ||| ((s.vdfsr.extractLsb' 12 1).setWidth 32 <<< 12) := by
  unfold State.virtualSyndrome
  split
  · exact longSyndrome_asyncSErrorStatus ..
  · exact shortSyndrome_asyncSErrorFS ..

/-! ### What an ESB leaves in the state (47_esb_indirect.md R250, R256) -/

section
variable (s : State)

/-- A virtual deferral needs EL2 implemented, and EL0 or EL1 (47_esb_indirect.md R256(b), (c)). -/
theorem State.virtualAdmissible_iff :
    s.virtualAdmissible = true ↔ s.impl.haveEL2 = true ∧ (s.ctx.el = .el0 ∨ s.ctx.el = .el1) := by
  simp [State.virtualAdmissible]

/-- The virtual part, whatever is raised: VDISR alone can change. -/
theorem State.esbVirtualPart_eq_ite :
    s.esbVirtualPart = { s with
      vdisr := if s.esb.virtual = true ∧ s.impl.haveEL2 = true ∧ (s.ctx.el = .el0 ∨ s.ctx.el = .el1)
        then s.virtualSyndrome else s.vdisr } := by
  split
  next hdefers =>
    obtain ⟨hraised, hadm⟩ := hdefers
    exact State.esbVirtualPart_of_raised hraised (s.virtualAdmissible_iff.2 hadm)
  next hno =>
    exact State.esbVirtualPart_of_not_raised fun hadm =>
      Bool.eq_false_iff.2 fun hraised => hno ⟨hraised, s.virtualAdmissible_iff.1 hadm⟩

variable {s}

/-- The physical part when no physical deferral is raised. -/
theorem State.esbPhysicalPart_of_none (hnone : s.esb.physical = none) : s.esbPhysicalPart = s := by
  simp only [State.esbPhysicalPart, hnone]

/-- The physical part when a deferral is raised: it is recorded if SErrors are synchronizable (47_esb_indirect.md
R256(a)). -/
theorem State.esbPhysicalPart_of_some {syn : Syndrome} (hraised : s.esb.physical = some syn) :
    s.esbPhysicalPart = { s with
      disr := if s.impl.hasEsbSyncSError then s.physicalSyndrome syn else s.disr } := by
  simp only [State.esbPhysicalPart, hraised]
  exact (apply_ite (fun d : Word => ({ s with disr := d } : State)) _ _ _).symm

end

/-- Settles O49: the virtual part rewrites VDISR of what the physical part leaves, and that differs in DISR alone. -/
theorem esbRecordsTheDeferralsRaised : Obligations.EsbRecordsTheDeferralsRaised := by
  intro c s
  refine ⟨fun hras => ?_, exec_esb_of_not_ras c⟩
  rw [exec_esb_of_ras c hras, State.esbVirtualPart_eq_ite, State.esbPhysicalPart_virtualSyndrome]
  cases hraised : s.esb.physical with
  | none => rw [State.esbPhysicalPart_of_none hraised]
  | some syn => rw [State.esbPhysicalPart_of_some hraised]

/-- Settles O51: VDISR takes the word of a virtual deferral, and an ESB that makes this deferral alone does just that. -/
theorem virtualDeferralWritesVdisr : Obligations.VirtualDeferralWritesVdisr := by
  intro s
  refine ⟨?_, fun c hras hesb hel2 hel => ?_⟩
  · rw [State.esbDefersVirtual, s.virtualSyndrome_eq_or]
  · have hadm : s.virtualAdmissible = true := s.virtualAdmissible_iff.2 ⟨hel2, hel⟩
    rw [exec_esb_of_ras c hras, State.esbPhysicalPart_of_none (by rw [hesb]),
      State.esbVirtualPart_of_raised (by rw [hesb]) hadm]

/-! ### A virtual SError taken (47_esb_indirect.md R253) -/

/-- It needs what a virtual deferral needs (47_esb_indirect.md R256(b), (d)). -/
theorem State.takenAdmissible_iff (s : State) :
    s.takenAdmissible = true ↔ s.impl.haveEL2 = true ∧ (s.ctx.el = .el0 ∨ s.ctx.el = .el1) :=
  s.virtualAdmissible_iff

/-- Settles O54: the head of the queue is taken, and the event reports two fields of VDFSR or is refused. -/
theorem virtualSErrorTakenReportsVdfsr : Obligations.VirtualSErrorTakenReportsVdfsr := by
  intro s c e rest hq
  rw [step_of_inputs_cons hq, runKind, virtualSErrorTaken]
  simp only [State.takenAdmissible_iff]
  rfl

end Sys2Proof.Machine

namespace Sys2Proof.Machine

open Sys2Proof

/-! ### The two ERR checks as one listing, by cause (40_access_common.md R122, R123; 60_exceptions.md R261 to R263)

Arms with the same outcome are merged, so that each arm is one cause of the tables of R261 to R263. -/

/-- The check of an access of the ERR group, by its direction. -/
def errCheck (write : Bool) : Feature → State → Option Exc := if write then errWriteCheck else errReadCheck

/-- The state with the EL3 control of an access of this direction in SCR_EL3.TERR. -/
def State.withErrControl (s : State) (write : Bool) : State :=
  { s with ctx := { s.ctx with scrEL3TERR := s.ctx.scrEL3TERR || (write && s.ctx.scrEL3TWERR) } }

section
variable (s : State) (write : Bool)

@[simp] theorem State.withErrControl_ctx :
    (s.withErrControl write).ctx = { s.ctx with scrEL3TERR := s.ctx.scrEL3TERR || (write && s.ctx.scrEL3TWERR) } := rfl
@[simp] theorem State.withErrControl_present : (s.withErrControl write).present = s.present := rfl
@[simp] theorem State.withErrControl_el2A64 : (s.withErrControl write).el2A64 = s.el2A64 := rfl
@[simp] theorem State.withErrControl_el2A32 : (s.withErrControl write).el2A32 = s.el2A32 := rfl
@[simp] theorem State.withErrControl_el3A64 : (s.withErrControl write).el3A64 = s.el3A64 := rfl
@[simp] theorem State.withErrControl_el3A32 : (s.withErrControl write).el3A32 = s.el3A32 := rfl
@[simp] theorem State.withErrControl_trapEL3A64 : (s.withErrControl write).trapEL3A64 = s.trapEL3A64 := rfl
@[simp] theorem State.withErrControl_trapEL3A32 : (s.withErrControl write).trapEL3A32 = s.trapEL3A32 := rfl

/-- Either check is the read check under the control of its direction (40_access_common.md R123). -/
theorem errCheck_eq_errReadCheck (f : Feature) : errCheck write f s = errReadCheck f (s.withErrControl write) := by
  cases write with
  | false => simp [errCheck, State.withErrControl]
  | true => exact writeCheckIsReadCheckWithTwerr f s

end

section
variable {f : Feature} {s : State} {write : Bool}

/-- Arms P and E0. -/
theorem errCheck_of_closed (hclosed : s.present f = false ∨ s.ctx.el = .el0) : errCheck write f s = some .undefined :=
  (errCheck_eq_errReadCheck s write f).trans (errReadCheck_of_closed hclosed)

/-- A check falls through exactly when the access is open. -/
theorem errCheck_eq_none_iff : errCheck write f s = none ↔ s.errOpen write f = true := by
  cases write with
  | false => exact errReadCheck_eq_none_iff f s
  | true => exact errWriteCheck_eq_none_iff f s

variable (hpresent : s.present f = true)
include hpresent

/-- Arms E1.1 to E1.11: the widths of EL2 exclude each other, so the order of T5 and TERR does not matter. -/
theorem errCheck_of_el1 (hel : s.ctx.el = .el1) :
    errCheck write f s =
      if s.errSddPriority write then some .undefined
      else if s.errTrapsToEL2A64 then some trapEL2A64
      else if s.errTrapsToEL2A32 then some trapEL2A32
      else if s.errControlEL3A64 write then some s.trapEL3A64
      else if s.errControlEL3A32 && !s.ctx.isMonitor then some s.trapEL3A32
      else none := by
  simp only [errCheck_eq_errReadCheck, errReadCheck, State.errSddPriority, State.errTrapsToEL2A64, State.errTrapsToEL2A32,
    State.errControlEL3A64, State.errControlEL3A32]
  by_cases h32 : s.el2A32 = true
  · simp [hpresent, hel, State.el2A64_eq_false_of_el2A32 h32, h32, and_or_left, or_and_right, ite_or, and_left_comm,
      and_comm]
  · simp [hpresent, hel, h32, and_or_left, or_and_right, ite_or, and_left_comm, and_comm]

/-- Arms E2.1 to E2.7. -/
theorem errCheck_of_el2 (hel : s.ctx.el = .el2) :
    errCheck write f s =
      if s.errSddPriority write then some .undefined
      else if s.errControlEL3A64 write then some s.trapEL3A64
      else if s.errControlEL3A32 then some s.trapEL3A32
      else none := by
  simp [errCheck_eq_errReadCheck, errReadCheck, hpresent, hel, State.errSddPriority, State.errControlEL3A64,
    State.errControlEL3A32, and_or_left, or_and_right, ite_or, and_left_comm, and_comm]

/-- Arms E3.1 and E3.2. -/
theorem errCheck_of_el3 (hel : s.ctx.el = .el3) :
    errCheck write f s = if !s.ctx.isMonitor && s.ctx.scrTERR then some .monitorTrap else none := by
  simp [errCheck_eq_errReadCheck, errReadCheck, hpresent, hel]

end

/-! ### How an access of the ERR group ends (40_access_common.md R122, R126, R127; 42_errid_errsel.md R160 to R162) -/

/-- The results of an access of the ERR group that its check lets through: an Undefined of its own needs a SEL that
selects no record. -/
def State.ErrAccessEnds (s : State) (r : StepResult) : Prop :=
  r = .done ∨ (r = .raised .undefined ∧ s.impl.num ≤ s.sel)

section
variable {s u : State} {t : Reg}

/-- A read through a window (40_access_common.md R126). -/
theorem erxRead_ends {k : RecReg} {h : Half} (hx : erxRead k h t s = .next u) : s.ErrAccessEnds u.result := by
  by_cases hsel : s.sel < s.impl.num
  · rw [erxRead_of_lt k h t hsel] at hx
    cases hx
    exact .inl rfl
  · obtain ⟨v, d, rfl⟩ | rfl | rfl := erxRead_cases hx
    · exact .inl rfl
    · exact .inl rfl
    · exact .inr ⟨rfl, BitVec.not_lt.1 hsel⟩

/-- A write through a window (40_access_common.md R127). -/
theorem erxWrite_ends {k : RecReg} {h : Half} (hx : erxWrite k h t s = .next u) : s.ErrAccessEnds u.result := by
  by_cases hsel : s.sel < s.impl.num
  · rw [erxWrite_of_lt k h t hsel] at hx
    cases hx
    exact .inl rfl
  · obtain ⟨d, rfl⟩ | rfl | rfl := erxWrite_cases hx
    · exact .inl rfl
    · exact .inl rfl
    · exact .inr ⟨rfl, BitVec.not_lt.1 hsel⟩

/-- ERRSELR is UNDEFINED only without records, and then no SEL selects one (10_state.md R31). -/
theorem State.num_le_sel_of_errselrUndefined (hundef : s.errselrUndefined = true) : s.impl.num ≤ s.sel := by
  obtain ⟨hnone, -⟩ := Bool.and_eq_true_iff.1 hundef
  simp [s.noRecords_iff.1 hnone, BitVec.le_def]

/-- Every access of the ERR group is its check, then an access that ends so. -/
theorem exec_err {i : Instr} (hgroup : i.group = .err) (s : State) :
    ∃ access, exec i s = guarded (errCheck i.isMcr i.feature s) access s ∧
      ∀ u, access s = .next u → s.ErrAccessEnds u.result := by
  obtain ⟨k, h, t, -, -, hmcr, -, hexec⟩ | ⟨k, h, t, -, -, hmcr, -, -, hexec⟩ | ⟨c, t, rfl | rfl⟩ |
    ⟨c, t, rfl | rfl | rfl⟩ | ⟨c, t, rfl | rfl | rfl | rfl⟩ | ⟨c, rfl⟩ := exec_shapes i
  · exact ⟨_, by rw [hexec, hmcr]; rfl, fun _ => erxRead_ends⟩
  · exact ⟨_, by rw [hexec, hmcr]; rfl, fun _ => erxWrite_ends⟩
  · cases hgroup
  · cases hgroup
  · refine ⟨_, exec_mrcErridr c t s, fun u hu => ?_⟩
    cases hu
    exact .inl rfl
  · refine ⟨_, exec_mrcErrselr c t s, fun u hu => ?_⟩
    split at hu
    next hundef =>
      cases hu
      exact .inr ⟨rfl, State.num_le_sel_of_errselrUndefined hundef⟩
    next => split at hu <;> cases hu <;> exact .inl rfl
  · refine ⟨_, exec_mcrErrselr c t s, fun u hu => ?_⟩
    split at hu <;> cases hu
    next hundef => exact .inr ⟨rfl, State.num_le_sel_of_errselrUndefined hundef⟩
    next => exact .inl rfl
  all_goals cases hgroup

end

section
variable {i : Instr} {s : State} (hgroup : i.group = .err)
include hgroup

/-- An outcome of the check is the outcome of the access. -/
theorem exec_err_of_some {e : Exc} (hcheck : errCheck i.isMcr i.feature s = some e) :
    exec i s = .next { s with result := .raised e } := by
  obtain ⟨access, hexec, -⟩ := exec_err hgroup s
  rw [hexec, hcheck, guarded_some]

/-- Everything an access of the ERR group can end in. -/
theorem exec_err_result {u : State} (h : exec i s = .next u) :
    (∃ e, errCheck i.isMcr i.feature s = some e ∧ u.result = .raised e) ∨
      (errCheck i.isMcr i.feature s = none ∧ s.ErrAccessEnds u.result) := by
  obtain ⟨access, hexec, hends⟩ := exec_err hgroup s
  obtain ⟨e, hcheck, rfl⟩ | ⟨hcheck, haccess⟩ := guarded_cases (hexec ▸ h)
  · exact .inl ⟨e, hcheck, rfl⟩
  · exact .inr ⟨hcheck, hends u haccess⟩

end

/-! ### The traps of the ERR group (60_exceptions.md R261 to R263; 40_access_common.md R134) -/

/-- The AArch64 controls of EL3 do not apply where its AArch32 controls do. -/
theorem State.errControlEL3A64_eq_false {s : State} (h32 : s.errControlEL3A32 = true) (write : Bool) :
    s.errControlEL3A64 write = false := by
  simp only [State.errControlEL3A32, State.el3A32, Bool.and_eq_true] at h32
  obtain ⟨⟨-, hwidth⟩, -⟩ := h32
  simp [State.errControlEL3A64, State.el3A64, hwidth]

/-- The traps of the two widths of EL2 exclude each other. -/
theorem State.errTrapsToEL2A64_eq_false {s : State} (h32 : s.errTrapsToEL2A32 = true) : s.errTrapsToEL2A64 = false := by
  obtain ⟨hel2, -⟩ := Bool.and_eq_true_iff.1 h32
  simp [State.errTrapsToEL2A64, State.el2A64_eq_false_of_el2A32 hel2]

/-- Settles O20: after the arms of EL3SDDUndefPriority, the traps to EL2 come first. -/
theorem errAccessTrapsToEL2 : Obligations.ErrAccessTrapsToEL2 := by
  intro i s hgroup hpresent hel hsdd
  have hcheck := errCheck_of_el1 (write := i.isMcr) hpresent hel
  refine ⟨fun h64 => exec_err_of_some hgroup ?_, fun h32 => exec_err_of_some hgroup ?_⟩
  · simp [hcheck, hsdd, h64, trapEL2A64, trapCode]
  · simp [hcheck, hsdd, State.errTrapsToEL2A64_eq_false h32, h32, trapEL2A32, trapCode]

/-- Settles O21: its arms are the first of EL1 and of EL2, and an absent register is UNDEFINED too. -/
theorem errAccessSddPriorityUndefined : Obligations.ErrAccessSddPriorityUndefined := by
  intro i s hgroup hel hsdd
  refine exec_err_of_some hgroup ?_
  cases hpresent : s.present i.feature with
  | false => exact errCheck_of_closed (.inl hpresent)
  | true =>
    obtain hel | hel := hel
    · rw [errCheck_of_el1 hpresent hel, if_pos hsdd]
    · rw [errCheck_of_el2 hpresent hel, if_pos hsdd]

/-- Settles O22: past the arms before them, each EL3 control traps, and at EL3 only SCR.TERR does. -/
theorem errAccessTrapsToEL3 : Obligations.ErrAccessTrapsToEL3 := by
  intro i s hgroup hpresent
  refine ⟨fun hprio hbelow => ?_, fun hel hmon hterr => exec_err_of_some hgroup ?_⟩
  · have hsdd : s.errSddPriority i.isMcr = false := by simp [State.errSddPriority, hprio]
    refine ⟨fun h64 => exec_err_of_some hgroup ?_, fun h32 hmode => exec_err_of_some hgroup ?_⟩
    · obtain hel | ⟨hel, hno64, hno32⟩ := hbelow
      · simp [errCheck_of_el2 hpresent hel, hsdd, h64, State.trapEL3A64, trapCode]
      · simp [errCheck_of_el1 hpresent hel, hsdd, hno64, hno32, h64, State.trapEL3A64, trapCode]
    · have h64 := State.errControlEL3A64_eq_false h32 i.isMcr
      obtain hel | ⟨hel, hno64, hno32⟩ := hbelow
      · simp [errCheck_of_el2 hpresent hel, hsdd, h64, h32, State.trapEL3A32]
      · have hmon : s.ctx.isMonitor = false := hmode.resolve_left (by simp [hel])
        simp [errCheck_of_el1 hpresent hel, hsdd, hno64, hno32, h64, h32, hmon, State.trapEL3A32]
  · simp [errCheck_of_el3 hpresent hel, hmon, hterr]

end Sys2Proof.Machine

namespace Sys2Proof.Machine

open Sys2Proof

/-! ### The outcomes an instruction can end in (60_exceptions.md R276, R278) -/

/-- The table of R276 row by row: every group ends in Done, an access in an outcome taken below EL3, and an access of the
ERR group in a trap to EL3 too. -/
theorem mayEndIn_iff {g : Group} {r : StepResult} :
    mayEndIn g r = true ↔ r = .done ∨
      (g ≠ .esb ∧ (r = .raised .undefined ∨ r = .raised (.hypTrap 3) ∨ r = .raised (.a64Trap .el2 3))) ∨
      (g = .err ∧ (r = .raised (.a64Trap .el3 3) ∨ r = .raised .monitorTrap)) := by
  cases g with
  | err => simp [mayEndIn, or_assoc]
  | esb => simp [mayEndIn]
  | _ => simp [mayEndIn, or_assoc]

/-- Every outcome a check raises is one that R276 lists for the group. -/
def RaisesListed (g : Group) (check : Option Exc) : Prop := ∀ e, check = some e → mayEndIn g (.raised e) = true

section
variable {g : Group}

/-- The end of a listing that falls through. -/
theorem RaisesListed.none : RaisesListed g none := by
  intro e h
  cases h

/-- The end of a listing that raises. -/
theorem RaisesListed.some {e : Exc} (he : mayEndIn g (.raised e) = true) : RaisesListed g (some e) := by
  intro e' h
  cases h
  exact he

/-- An arm before the rest of a listing. -/
theorem RaisesListed.arm {p : Prop} [Decidable p] {e : Exc} {rest : Option Exc} (he : mayEndIn g (.raised e) = true)
    (hrest : RaisesListed g rest) : RaisesListed g (if p then Option.some e else rest) := by
  split
  · exact .some he
  · exact hrest

/-- The two checks of the ERR group (40_access_common.md R122, R123). -/
theorem errCheck_raisesListed (write : Bool) (f : Feature) (s : State) : RaisesListed .err (errCheck write f s) := by
  have hel3A64 : mayEndIn .err (.raised s.trapEL3A64) = true := by
    rw [State.trapEL3A64]
    split <;> rfl
  have hel3A32 : mayEndIn .err (.raised s.trapEL3A32) = true := by
    rw [State.trapEL3A32]
    split <;> rfl
  cases hpresent : s.present f with
  | false =>
    rw [errCheck_of_closed (.inl hpresent)]
    exact .some rfl
  | true =>
    cases hel : s.ctx.el with
    | el0 =>
      rw [errCheck_of_closed (.inr hel)]
      exact .some rfl
    | el1 =>
      rw [errCheck_of_el1 hpresent hel]
      exact .arm rfl (.arm rfl (.arm rfl (.arm hel3A64 (.arm hel3A32 .none))))
    | el2 =>
      rw [errCheck_of_el2 hpresent hel]
      exact .arm rfl (.arm hel3A64 (.arm hel3A32 .none))
    | el3 =>
      rw [errCheck_of_el3 hpresent hel]
      exact .arm rfl .none

/-- VirtCheck (40_access_common.md R125). -/
theorem virtCheck_raisesListed (hg : g ≠ .esb) (hstrEL2 hstr : Bool) (s : State) :
    RaisesListed g (virtCheck hstrEL2 hstr s) := by
  have hundef : mayEndIn g (.raised .undefined) = true := mayEndIn_iff.2 (.inr (.inl ⟨hg, .inl rfl⟩))
  have hhyp : mayEndIn g (.raised trapEL2A32) = true := mayEndIn_iff.2 (.inr (.inl ⟨hg, .inr (.inl rfl)⟩))
  have ha64 : mayEndIn g (.raised trapEL2A64) = true := mayEndIn_iff.2 (.inr (.inl ⟨hg, .inr (.inr rfl)⟩))
  refine .arm hundef ?_
  cases s.ctx.el with
  | el0 => exact .some hundef
  | el1 => exact .arm ha64 (.arm hhyp (.some hundef))
  | el2 => exact .none
  | el3 => exact .arm hundef .none

end

section
variable {i : Instr} {s u : State}

/-- The raising arms of the DISR encoding (41_disr.md R150: P, D0, D1.1 and D1.2). -/
theorem mayEndIn_of_disrPath {e : Exc} (hpath : disrPath s = .raises e) : mayEndIn .disr (.raised e) = true := by
  unfold disrPath at hpath
  repeat' split at hpath
  all_goals cases hpath
  all_goals rfl

/-- Both accesses by the DISR encoding raise what their path raises, and end in Done on every other path. -/
theorem exec_disr_result (hgroup : i.group = .disr) (h : exec i s = .next u) :
    (∃ e, disrPath s = .raises e ∧ u.result = .raised e) ∨ u.result = .done := by
  cases i with
  | mrcDisr c t =>
    rw [exec_mrcDisr, execMrcDisr] at h
    split at h <;> cases h
    next e hpath => exact .inl ⟨e, hpath, rfl⟩
    all_goals exact .inr rfl
  | mcrDisr c t =>
    rw [exec_mcrDisr, execMcrDisr] at h
    split at h <;> cases h
    next e hpath => exact .inl ⟨e, hpath, rfl⟩
    all_goals exact .inr rfl
  | _ => cases hgroup

/-- An access by the encoding of VDFSR or VDISR raises what its check raises, or ends in Done. -/
theorem exec_virt_result {hstrEL2 hstr : Bool} (hvirt : Instr.isVirtAccess i hstrEL2 hstr s)
    (h : exec i s = .next u) : (∃ e, virtCheck hstrEL2 hstr s = some e ∧ u.result = .raised e) ∨ u.result = .done := by
  obtain ⟨access, hexec⟩ := exec_virt hvirt
  obtain ⟨e, hcheck, rfl⟩ | ⟨-, haccess⟩ := guarded_cases (hexec ▸ h)
  · exact .inl ⟨e, hcheck, rfl⟩
  · cases haccess
    exact .inr rfl

/-- An ESB ends in Done (47_esb_indirect.md R250). -/
theorem exec_esb_result {c : Cond} (h : exec (.esb c) s = .next u) : u.result = .done := by
  cases hras : s.impl.featRAS with
  | true =>
    cases (exec_esb_of_ras c hras).symm.trans h
    rfl
  | false =>
    cases (exec_esb_of_not_ras c hras).symm.trans h
    rfl

/-- No instruction ends in an outcome R276 does not list for its group. -/
theorem exec_mayEndIn (h : exec i s = .next u) : mayEndIn i.group u.result = true := by
  have hdone : ∀ g, mayEndIn g .done = true := fun _ => mayEndIn_iff.2 (.inl rfl)
  have hvirtual : ∀ {g hstrEL2 hstr}, g ≠ .esb → Instr.isVirtAccess i hstrEL2 hstr s →
      mayEndIn g u.result = true := fun hg hvirt => by
    obtain ⟨e, hcheck, hr⟩ | hr := exec_virt_result hvirt h
    · exact hr ▸ virtCheck_raisesListed hg _ _ s e hcheck
    · exact hr ▸ hdone _
  cases hgroup : i.group with
  | disr =>
    obtain ⟨e, hpath, hr⟩ | hr := exec_disr_result hgroup h
    · exact hr ▸ mayEndIn_of_disrPath hpath
    · exact hr ▸ hdone _
  | err =>
    obtain ⟨e, hcheck, hr⟩ | ⟨-, hr | ⟨hr, -⟩⟩ := exec_err_result hgroup h
    · exact hr ▸ errCheck_raisesListed _ _ s e hcheck
    · exact hr ▸ hdone _
    · exact hr ▸ rfl
  | vdfsr => exact hvirtual (by decide) (.inl ⟨hgroup, rfl, rfl⟩)
  | vdisr => exact hvirtual (by decide) (.inr ⟨hgroup, rfl, rfl⟩)
  | esb =>
    obtain ⟨c, rfl⟩ := Instr.eq_esb hgroup
    exact exec_esb_result h ▸ hdone _

/-- T5 and T12 together trap every access at EL1 to the EL2 that is in use. -/
theorem exec_of_el2Traps (haccess : i.group ≠ .esb) (hpresent : ∀ f, s.present f = true) (hel : s.ctx.el = .el1)
    (hsdd : s.errSddPriority i.isMcr = false) :
    (s.el2A64 = true → s.ctx.hstrEL2T5 = true → s.ctx.hstrEL2T12 = true →
      exec i s = .next { s with result := .raised (.a64Trap .el2 3) }) ∧
    (s.el2A32 = true → s.ctx.hstrT5 = true → s.ctx.hstrT12 = true →
      exec i s = .next { s with result := .raised (.hypTrap 3) }) := by
  have hvirtual : ∀ {hstrEL2 hstr}, Instr.isVirtAccess i hstrEL2 hstr s →
      (s.el2A64 = true → hstrEL2 = true → exec i s = .next { s with result := .raised (.a64Trap .el2 3) }) ∧
      (s.el2A32 = true → hstr = true → exec i s = .next { s with result := .raised (.hypTrap 3) }) := fun hvirt => by
    have hcheck := exec_virt_of_some hvirt (virtCheck_of_el1 _ _ (hpresent .ras) hel)
    refine ⟨fun h64 ht => ?_, fun h32 ht => ?_⟩
    · rwa [if_pos ⟨h64, ht⟩] at hcheck
    · rwa [State.el2A64_eq_false_of_el2A32 h32, if_neg (by simp), if_pos ⟨h32, ht⟩] at hcheck
  cases hgroup : i.group with
  | disr =>
    obtain ⟨ha64, hhyp⟩ := disrEncodingTrappedByT12 i s hgroup (hpresent _) hel
    exact ⟨fun h64 _ ht12 => ha64 h64 ht12, fun h32 _ ht12 => hhyp h32 ht12⟩
  | err =>
    obtain ⟨ha64, hhyp⟩ := errAccessTrapsToEL2 i s hgroup (hpresent _) hel hsdd
    exact ⟨fun h64 ht5 _ => ha64 (by simp [State.errTrapsToEL2A64, h64, ht5]),
      fun h32 ht5 _ => hhyp (by simp [State.errTrapsToEL2A32, h32, ht5])⟩
  | vdfsr =>
    obtain ⟨ha64, hhyp⟩ := hvirtual (.inl ⟨hgroup, rfl, rfl⟩)
    exact ⟨fun h64 ht5 _ => ha64 h64 ht5, fun h32 ht5 _ => hhyp h32 ht5⟩
  | vdisr =>
    obtain ⟨ha64, hhyp⟩ := hvirtual (.inr ⟨hgroup, rfl, rfl⟩)
    exact ⟨fun h64 _ ht12 => ha64 h64 ht12, fun h32 _ ht12 => hhyp h32 ht12⟩
  | esb => exact absurd hgroup haccess

end

/-! ### A state for each listed outcome -/

/-- A context in which every instruction that may end in the result does: one control set at one Exception level. -/
def contextEndingIn : StepResult → Context
  | .raised .undefined => { resetContext with el := .el0 }
  | .raised (.hypTrap _) => { resetContext with el := .el1, el2Enabled := true, hstrT5 := true, hstrT12 := true }
  | .raised (.a64Trap .el2 _) =>
    { resetContext with el := .el1, el2Enabled := true, el2UsingAArch32 := false, hstrEL2T5 := true, hstrEL2T12 := true }
  | .raised (.a64Trap _ _) => { resetContext with el := .el2, el3UsingAArch32 := false, scrEL3TERR := true }
  | .raised .monitorTrap => { resetContext with isMonitor := false, scrTERR := true }
  | _ => { resetContext with el := .el2 }

/-- State.reset, whose implementation has every feature and a record selected, in that context. -/
def stateEndingIn (r : StepResult) : State := { State.reset with ctx := contextEndingIn r }

/-- No access is absent there. -/
theorem stateEndingIn_present (r : StepResult) (f : Feature) : (stateEndingIn r).present f = true := by
  cases f <;> rfl

/-- At EL2 with every control clear each instruction ends in Done. -/
theorem exec_stateEndingIn_done {i : Instr} {u : State} (h : exec i (stateEndingIn .done) = .next u) :
    u.result = .done := by
  have hvirtual : ∀ {hstrEL2 hstr}, Instr.isVirtAccess i hstrEL2 hstr (stateEndingIn .done) → u.result = .done :=
    fun hvirt => by
      obtain ⟨u', hu', hdone⟩ := exec_virt_of_open hvirt rfl
      cases hu'.symm.trans h
      exact hdone
  cases hgroup : i.group with
  | disr =>
    obtain ⟨e, hpath, -⟩ | hdone := exec_disr_result hgroup h
    · rw [(disrPath_eq_toDisr_iff _).2 rfl] at hpath
      cases hpath
    · exact hdone
  | err =>
    have hopen : errCheck i.isMcr i.feature (stateEndingIn .done) = none :=
      errCheck_eq_none_iff.2 (Bool.and_eq_true_iff.2 ⟨stateEndingIn_present _ _, rfl⟩)
    obtain ⟨e, hcheck, -⟩ | ⟨-, hdone | ⟨-, hsel⟩⟩ := exec_err_result hgroup h
    · rw [hopen] at hcheck
      cases hcheck
    · exact hdone
    · exact absurd hsel (by decide)
  | vdfsr => exact hvirtual (.inl ⟨hgroup, rfl, rfl⟩)
  | vdisr => exact hvirtual (.inr ⟨hgroup, rfl, rfl⟩)
  | esb =>
    obtain ⟨c, rfl⟩ := Instr.eq_esb hgroup
    exact exec_esb_result h

/-- Every outcome R276 lists is reached. -/
theorem exec_stateEndingIn {i : Instr} {r : StepResult} (hlisted : mayEndIn i.group r = true) :
    ∃ t, exec i (stateEndingIn r) = .next t ∧ t.result = r := by
  obtain rfl | ⟨haccess, rfl | rfl | rfl⟩ | ⟨hgroup, rfl | rfl⟩ := mayEndIn_iff.1 hlisted
  · obtain ⟨t, ht⟩ := everyInstructionAnswersANextState i (stateEndingIn .done)
    exact ⟨t, ht, exec_stateEndingIn_done ht⟩
  · exact ⟨_, el0AccessIsUndefined i _ haccess rfl, rfl⟩
  · exact ⟨_, (exec_of_el2Traps haccess (stateEndingIn_present _) rfl rfl).2 rfl rfl rfl, rfl⟩
  · exact ⟨_, (exec_of_el2Traps haccess (stateEndingIn_present _) rfl rfl).1 rfl rfl rfl, rfl⟩
  · obtain ⟨hbelow, -⟩ := errAccessTrapsToEL3 i (stateEndingIn _) hgroup (stateEndingIn_present _ _)
    exact ⟨_, (hbelow rfl (.inl rfl)).1 rfl, rfl⟩
  · obtain ⟨-, hel3⟩ := errAccessTrapsToEL3 i (stateEndingIn _) hgroup (stateEndingIn_present _ _)
    exact ⟨_, hel3 rfl rfl rfl, rfl⟩

/-- Settles O16: a state for each listed outcome, and no outcome beside them. -/
theorem outcomesOfEachGroup : Obligations.OutcomesOfEachGroup := by
  intro i r
  constructor
  · exact fun hlisted => ⟨stateEndingIn r, exec_stateEndingIn hlisted⟩
  · rintro ⟨s, t, hexec, rfl⟩
    exact exec_mayEndIn hexec

end Sys2Proof.Machine

namespace Sys2Proof.Machine

open Sys2Proof

/-! ### What a Warm reset draws (70_reset_and_hazards.md R301) -/

/-- The reserved bits of a drawn word are a draw of their own where they are stored: the named draw has none of them. -/
theorem resetWord_reserved_of_readback {p : Impl} (hp : p.res0Storage = .readback) (m : Word) (d : Nat) :
    resetWord p m d &&& ~~~m = Config.unknown32 (d + 1) &&& ~~~m := by
  unfold resetWord
  rw [hp]
  ext i hi
  cases hm : m[i] <;> simp [hm]

/-- A Warm reset always goes on. -/
theorem warmReset_answers (s : State) : ∃ t, warmReset s = .next t := ⟨_, rfl⟩

section
variable {s u : State}

/-- A Warm reset completes, eight draws and eight more for each record later. -/
theorem warmReset_done (h : warmReset s = .next u) :
    u.result = .done ∧ u.draws = s.draws + 8 + 8 * s.impl.num.toNat := by
  cases h
  exact ⟨rfl, rfl⟩

/-- Each of DISR, VDFSR and VDISR is a word of two draws of its own. -/
theorem warmReset_words (h : warmReset s = .next u) :
    u.disr = resetWord s.impl (disrFieldMask s.impl) s.draws ∧
      u.vdfsr = resetWord s.impl (vdfsrFieldMask s.impl) (s.draws + 2) ∧
      u.vdisr = resetWord s.impl (vdisrFieldMask s.impl) (s.draws + 4) := by
  cases h
  exact ⟨rfl, rfl, rfl⟩

/-- SEL is drawn whole. -/
theorem warmReset_sel (h : warmReset s = .next u) : u.sel = Config.unknown16 (s.draws + 6) := by
  cases h
  rfl

/-- The named bits of the three words are those of their first draws. -/
theorem warmReset_named (h : warmReset s = .next u) :
    u.disr &&& disrFieldMask s.impl = Config.unknown32 s.draws &&& disrFieldMask s.impl ∧
      u.vdfsr &&& vdfsrFieldMask s.impl = Config.unknown32 (s.draws + 2) &&& vdfsrFieldMask s.impl ∧
      u.vdisr &&& vdisrFieldMask s.impl = Config.unknown32 (s.draws + 4) &&& vdisrFieldMask s.impl := by
  obtain ⟨hdisr, hvdfsr, hvdisr⟩ := warmReset_words h
  rw [hdisr, hvdfsr, hvdisr]
  exact ⟨resetWord_named .., resetWord_named .., resetWord_named ..⟩

/-- The reserved bits, where they are stored, are draws of their own: the second draws of the three words, and one for
ERRSELR[31:16]. -/
theorem warmReset_reserved_of_readback (h : warmReset s = .next u) (hp : s.impl.res0Storage = .readback) :
    u.disr &&& ~~~disrFieldMask s.impl = Config.unknown32 (s.draws + 1) &&& ~~~disrFieldMask s.impl ∧
      u.vdfsr &&& ~~~vdfsrFieldMask s.impl = Config.unknown32 (s.draws + 3) &&& ~~~vdfsrFieldMask s.impl ∧
      u.vdisr &&& ~~~vdisrFieldMask s.impl = Config.unknown32 (s.draws + 5) &&& ~~~vdisrFieldMask s.impl ∧
      u.errselrHi = Config.unknown16 (s.draws + 7) := by
  have herrselr : u.errselrHi = Config.unknown16 (s.draws + 7) := by
    cases h
    simp [hp]
  obtain ⟨hdisr, hvdfsr, hvdisr⟩ := warmReset_words h
  rw [hdisr, hvdfsr, hvdisr]
  exact ⟨resetWord_reserved_of_readback hp .., resetWord_reserved_of_readback hp ..,
    resetWord_reserved_of_readback hp .., herrselr⟩

/-- Record n below NUM is drawn after the registers and the n records before it (92_eei_decisions.md D17). -/
theorem warmReset_record (h : warmReset s = .next u) {n : Nat} (hn : n < s.impl.num.toNat) :
    u.record n = resetRecord (s.draws + 8 + 8 * n) := by
  cases h
  simp [State.record, List.getElem?_range hn]

end

/-- Settles O55: each clause is what the Warm reset draws in the state its input was taken in. -/
theorem warmResetDrawsTheNamedFields : Obligations.WarmResetDrawsTheNamedFields := by
  intro s c e rest hq
  obtain ⟨t, h⟩ := warmReset_answers (s.takeInput ⟨c, e, .warmReset⟩ rest)
  obtain ⟨hgpr, himpl, hctx, hesb, hinputs, hcomplete⟩ := warmReset_frame h
  obtain ⟨hresult, hdraws⟩ := warmReset_done h
  obtain ⟨hdisr, hvdfsr, hvdisr⟩ := warmReset_named h
  have hsel := warmReset_sel h
  have hreadback := warmReset_reserved_of_readback h
  exact ⟨t, (step_of_inputs_cons hq).trans h, hresult, hgpr, himpl, hctx, hesb, hinputs, hdraws, hdisr, hvdfsr, hvdisr,
    hsel, warmReset_reservedZero h, hreadback, hcomplete, fun n hn => warmReset_record h hn⟩

/-! ### Boundaries outside the model (70_reset_and_hazards.md R305, R306) -/

/-- Settles O57: a boundary ends the step in the state its input was taken in. -/
theorem boundaryHasNoEffect : Obligations.BoundaryHasNoEffect := by
  intro s c e rest hq
  rw [step_of_inputs_cons hq, runKind, boundary, State.finish_eq, State.takeInput]

end Sys2Proof.Machine
